-- ==== Sys2Proof/Config.lean ====
section
/-! DEFINITION. What the manual leaves to an implementation: each is an opaque constant without a
body, so that nothing can be proved of its value. -/

namespace Sys2Proof

/-- R130: at a cycle-begin at which pacing enters HALTED, the entry is handed to a segment controller
before its own steps (`true`) or after them (`false`). The argument is the count of choices made
before (`State.free`). DESIGN CHOICE, log entry 3. -/
opaque Config.haltEntryFirst : Nat → Bool

/-- R151: when one event of the part changes both segments, segment B's SEGMENT event is written
before segment A's (`true`) or after it (`false`). DESIGN CHOICE, log entry 3. -/
opaque Config.segmentBFirst : Nat → Bool

/-- The byte by which READ_RUNTIME SEGMENT returns a segment state; R200 states no code for it. The
argument is the state's place in R127's list (DOWN 0, BOOT 1, UP 2, JAMMED 3).
DESIGN CHOICE, log entry 6. -/
opaque Config.segmentStateCode : Nat → BitVec 8

/-- The byte by which READ_RUNTIME PORT returns the transmitter field; R200 states no code for it.
The argument is the value's place in R155's list (IDLE 0, SENDING 1). DESIGN CHOICE, log entry 6. -/
opaque Config.transmitterCode : Nat → BitVec 8

/-- The byte by which READ_CHECK returns the state of the check context; R200 states no code for it.
The argument is the value's place in R88's list (IDLE 0, RUNNING 1). DESIGN CHOICE, log entry 6. -/
opaque Config.checkStateCode : Nat → BitVec 8

/-- The four bytes by which READ_RUNTIME SEGMENT returns the due time of a pending SYNC; R200 states
no form for it. The arguments are the present time and the due time, in REFCLK periods.
DESIGN CHOICE, log entry 6. -/
opaque Config.dueTimeField : Nat → Nat → BitVec 32

/-- R187, R199: the operand byte of the NULL item of a position that no schedule entry matches; the manual
gives that item no operand. The argument is the position. DESIGN CHOICE, log entry 34. -/
opaque Config.nullOperand : Nat → BitVec 8

/-- R31, R34, R35: where the standstill band is greater than the first breakpoint, the first row's force
applies from the band to the next breakpoint above it, as the last paragraph of R31 says (`true`), or the
ordered cases of R34 and the interpolation of R35 decide there too (`false`). The manual says both.
DESIGN CHOICE, log entry 40. -/
opaque Config.firstRowAboveBand : Bool

end Sys2Proof
end

