-- ==== Sys2Proof/Word.lean ====
section
/-! DEFINITION. The byte of the part's lines, and two fixed-size containers: the part has four
stations and four slots a segment (Numbering, 00_scope.md), and two lock groups and two segments. -/

namespace Sys2Proof

/-- One character's eight data bits, on the cell link or on a drive segment (R195, R196). -/
abbrev Byte := BitVec 8

/-- Four like things, numbered 0 to 3: stations, or the slots 1 to 4 of a segment. -/
structure Four (α : Type) where
  x0 : α
  x1 : α
  x2 : α
  x3 : α
  deriving DecidableEq, Repr

/-- Two like things, numbered 0 and 1: lock groups, or segments A and B. -/
structure Two (α : Type) where
  x0 : α
  x1 : α
  deriving DecidableEq, Repr

def Four.get {α : Type} (v : Four α) (i : Fin 4) : α :=
  match i with
  | 0 => v.x0
  | 1 => v.x1
  | 2 => v.x2
  | 3 => v.x3

def Four.set {α : Type} (v : Four α) (i : Fin 4) (a : α) : Four α :=
  match i with
  | 0 => { v with x0 := a }
  | 1 => { v with x1 := a }
  | 2 => { v with x2 := a }
  | 3 => { v with x3 := a }

/-- The container whose entry `i` is `f i`. -/
def Four.tabulate {α : Type} (f : Fin 4 → α) : Four α := ⟨f 0, f 1, f 2, f 3⟩

def Two.get {α : Type} (v : Two α) (i : Fin 2) : α :=
  match i with
  | 0 => v.x0
  | 1 => v.x1

def Two.set {α : Type} (v : Two α) (i : Fin 2) (a : α) : Two α :=
  match i with
  | 0 => { v with x0 := a }
  | 1 => { v with x1 := a }

def Two.tabulate {α : Type} (f : Fin 2 → α) : Two α := ⟨f 0, f 1⟩

/-- The four numbers 0 to 3, lowest first: the order in which the part goes through its stations and
the slots of a segment. -/
def four : List (Fin 4) := [0, 1, 2, 3]

end Sys2Proof
end

