-- ==== Sys2Proof/Syntax.lean ====
section
/-! DEFINITION. The commands of the part: one constructor per row of spec/opcode_table.json.

Every command carries `t`, the REFCLK period at which it is taken (R1: "Every event is taken at one
period"). A request carries its tag and its argument bytes as they arrived (R162, R198); a reply from
a drive carries the characters the part read (R196). -/

namespace Sys2Proof

/-- The two drive segments. -/
inductive Seg where
  | a
  | b
  deriving DecidableEq, Repr

/-- A segment's number, 0 for A and 1 for B (R151, R198). -/
def Seg.num : Seg → Fin 2
  | .a => 0
  | .b => 1

/-- The test modes of a DEMAND (R23, R195). -/
inductive DriveMode where
  | coast
  | road
  | speed
  deriving DecidableEq, Repr

/-- The steps of the part. -/
inductive Instr where
  /-- R167 -/
  | hardReset (t : Nat)
  /-- R159: a START that passed the link check, with its cycle index. -/
  | start (t : Nat) (index : BitVec 6)
  /-- R160: a DEMAND that passed the link check, with its fields as received. -/
  | demand (t : Nat) (mode : DriveMode) (speed : Int) (mass : Nat)
  /-- R157: a frame that arrived and failed the link check. -/
  | linkCheckDiscard (t : Nat)
  /-- R156: the cell-link line has been idle for 1 µs. -/
  | lineIdle (t : Nat)
  /-- R169: a REQUEST that arrives while the reply holder is full. -/
  | requestDropped (t : Nat)
  /-- R171: a REQUEST whose code names no request. -/
  | unknown (t : Nat) (code tag : Byte) (args : List Byte)
  | loadCell (t : Nat) (tag : Byte) (args : List Byte)
  | loadStation (t : Nat) (tag : Byte) (args : List Byte)
  | loadRoadload (t : Nat) (tag : Byte) (args : List Byte)
  | loadGroup (t : Nat) (tag : Byte) (args : List Byte)
  | loadSlot (t : Nat) (tag : Byte) (args : List Byte)
  | loadSchedule (t : Nat) (tag : Byte) (args : List Byte)
  | readTable (t : Nat) (tag : Byte) (args : List Byte)
  | readRuntime (t : Nat) (tag : Byte) (args : List Byte)
  | readEvents (t : Nat) (tag : Byte) (args : List Byte)
  | readCheck (t : Nat) (tag : Byte) (args : List Byte)
  | enterOperate (t : Nat) (tag : Byte) (args : List Byte)
  | enterConfig (t : Nat) (tag : Byte) (args : List Byte)
  | restart (t : Nat) (tag : Byte) (args : List Byte)
  | halt (t : Nat) (tag : Byte) (args : List Byte)
  | stop (t : Nat) (tag : Byte) (args : List Byte)
  | engage (t : Nat) (tag : Byte) (args : List Byte)
  | release (t : Nat) (tag : Byte) (args : List Byte)
  | startCheck (t : Nat) (tag : Byte) (args : List Byte)
  | abortCheck (t : Nat) (tag : Byte) (args : List Byte)
  | directTorque (t : Nat) (tag : Byte) (args : List Byte)
  | clearFaults (t : Nat) (tag : Byte) (args : List Byte)
  /-- R112 -/
  | silence (t : Nat)
  /-- R115, R117 -/
  | missedCycle (t : Nat)
  /-- R123 -/
  | localCycleBegin (t : Nat)
  /-- R106 -/
  | computationPoint (t : Nat)
  /-- R131 -/
  | syncDue (t : Nat) (seg : Seg)
  /-- R134; slot 0 is slot 1 of the segment, and so on. -/
  | windowOpen (t : Nat) (seg : Seg) (slot : Fin 4)
  /-- R136 -/
  | windowClose (t : Nat) (seg : Seg) (slot : Fin 4)
  /-- R135: a drive begins to transmit on the segment. -/
  | replyStart (t : Nat) (seg : Seg)
  /-- R134: the last byte of what the drive sent since it began, with its characters. -/
  | replyComplete (t : Nat) (seg : Seg) (chars : List Byte)
  /-- R165: the last CRC byte of an UPLINK leaves. -/
  | transmitDone (t : Nat)
  /-- R156: one byte arrives on the cell link. -/
  | cellLinkByteReceived (t : Nat) (byte : Byte)
  deriving DecidableEq, Repr

/-- The time at which a command is taken. -/
def Instr.time : Instr → Nat
  | .hardReset t | .start t _ | .demand t _ _ _ | .linkCheckDiscard t | .lineIdle t
  | .requestDropped t | .unknown t _ _ _ | .loadCell t _ _ | .loadStation t _ _
  | .loadRoadload t _ _ | .loadGroup t _ _ | .loadSlot t _ _ | .loadSchedule t _ _
  | .readTable t _ _ | .readRuntime t _ _ | .readEvents t _ _ | .readCheck t _ _
  | .enterOperate t _ _ | .enterConfig t _ _ | .restart t _ _ | .halt t _ _ | .stop t _ _
  | .engage t _ _ | .release t _ _ | .startCheck t _ _ | .abortCheck t _ _ | .directTorque t _ _
  | .clearFaults t _ _ | .silence t | .missedCycle t | .localCycleBegin t | .computationPoint t
  | .syncDue t _ | .windowOpen t _ _ | .windowClose t _ _ | .replyStart t _ | .replyComplete t _ _
  | .transmitDone t | .cellLinkByteReceived t _ => t

/-- The request code, the tag and the argument bytes of a command that is a REQUEST (R198). -/
def Instr.request? : Instr → Option (Byte × Byte × List Byte)
  | .unknown _ code tag args => some (code, tag, args)
  | .loadCell _ tag args => some (0x01, tag, args)
  | .loadRoadload _ tag args => some (0x02, tag, args)
  | .loadStation _ tag args => some (0x03, tag, args)
  | .loadGroup _ tag args => some (0x04, tag, args)
  | .loadSlot _ tag args => some (0x05, tag, args)
  | .loadSchedule _ tag args => some (0x06, tag, args)
  | .readTable _ tag args => some (0x10, tag, args)
  | .readRuntime _ tag args => some (0x11, tag, args)
  | .readEvents _ tag args => some (0x12, tag, args)
  | .readCheck _ tag args => some (0x13, tag, args)
  | .enterOperate _ tag args => some (0x20, tag, args)
  | .enterConfig _ tag args => some (0x21, tag, args)
  | .restart _ tag args => some (0x22, tag, args)
  | .halt _ tag args => some (0x30, tag, args)
  | .stop _ tag args => some (0x31, tag, args)
  | .engage _ tag args => some (0x40, tag, args)
  | .release _ tag args => some (0x41, tag, args)
  | .startCheck _ tag args => some (0x50, tag, args)
  | .abortCheck _ tag args => some (0x51, tag, args)
  | .directTorque _ tag args => some (0x60, tag, args)
  | .clearFaults _ tag args => some (0x70, tag, args)
  | .hardReset _ | .start _ _ | .demand _ _ _ _ | .linkCheckDiscard _ | .lineIdle _
  | .requestDropped _ | .silence _ | .missedCycle _ | .localCycleBegin _ | .computationPoint _
  | .syncDue _ _ | .windowOpen _ _ _ | .windowClose _ _ _ | .replyStart _ _ | .replyComplete _ _ _
  | .transmitDone _ | .cellLinkByteReceived _ _ => none

end Sys2Proof
end

