-- ==== Sys2Proof/Machine/Operands.lean ====
section
/-! DEFINITION. The operand forms of the part: multi-byte fields and signed fields (chapter 11),
the fields of a request's arguments (R198), the check sums (R157, R196), rounding (R2), clamps and
saturating counts. -/

namespace Sys2Proof.Machine

/-- A time in µs as REFCLK periods of 40 ns (R1). -/
def us (n : Nat) : Nat := 25 * n

/-- R2: `n / d`, exact, then rounded to nearest with halves away from zero. -/
def roundDiv (n : Int) (d : Nat) : Int :=
  n.sign * (((2 * n.natAbs + d) / (2 * d) : Nat) : Int)

/-- `z` clamped to `lo..hi`. -/
def clampTo (lo hi z : Int) : Int := max lo (min hi z)

/-- `z` clamped to `±m`. -/
def clampAbs (m : Nat) (z : Int) : Int := clampTo (-(m : Int)) m z

/-- A count that goes up by 1, saturating at `cap`. -/
def bump (cap n : Nat) : Nat := min (n + 1) cap

/-- An unsigned field, most significant byte first (chapter 11). -/
def beNat (bytes : List Byte) : Nat := bytes.foldl (fun acc b => acc * 256 + b.toNat) 0

/-- A signed field of `w` bytes, two's complement (chapter 11), from its unsigned reading. -/
def signedField (w n : Nat) : Int :=
  if 2 * n < 256 ^ w then (n : Int) else (n : Int) - ((256 ^ w : Nat) : Int)

/-- `n` in `w` bytes, most significant first. -/
def beBytes : Nat → Nat → List Byte
  | 0, _ => []
  | w + 1, n => BitVec.ofNat 8 (n / 256 ^ w) :: beBytes w n

/-- A signed value in `w` bytes, two's complement, most significant first. -/
def beInt (w : Nat) (z : Int) : List Byte := beBytes w (z % ((256 ^ w : Nat) : Int)).toNat

/-- A set bit or a yes as a byte, 0 or 1 (R198). -/
def beBool (b : Bool) : List Byte := if b then [0x01] else [0x00]

/-- R198, R171: the fields of the argument bytes, by their widths in field order; nothing when the
byte count is not the one the widths give. -/
def splitFields : List Nat → List Byte → Option (List Nat)
  | [], [] => some []
  | [], _ :: _ => none
  | w :: ws, bytes =>
    if bytes.length < w then none
    else (splitFields ws (bytes.drop w)).map (beNat (bytes.take w) :: ·)

/-- The number of the first check that fails, of checks in order with their numbers (R171). -/
def firstFailing : List (Nat × Bool) → Option Nat
  | [] => none
  | (n, ok) :: rest => if ok then firstFailing rest else some n

/-- A range check. -/
def inRange (lo hi n : Nat) : Bool := decide (lo ≤ n) && decide (n ≤ hi)

/-- One bit of a check sum with generator `poly`, most significant bit first. -/
def crcBit {w : Nat} (poly c : BitVec w) (bit : Bool) : BitVec w :=
  if c.msb != bit then (c <<< 1) ^^^ poly else c <<< 1

/-- One byte of a check sum, most significant bit first (R157, R196). -/
def crcByte {w : Nat} (poly c : BitVec w) (b : Byte) : BitVec w :=
  [7, 6, 5, 4, 3, 2, 1, 0].foldl (fun c i => crcBit poly c (b.getLsbD i)) c

/-- R157: x^16 + x^12 + x^5 + 1, initial value all ones, not inverted. -/
def crc16 (bytes : List Byte) : BitVec 16 := bytes.foldl (crcByte (0x1021 : BitVec 16)) 0xFFFF

/-- R196: x^8 + x^2 + x + 1, initial value 0xFF, no final inversion. -/
def crc8 (bytes : List Byte) : BitVec 8 := bytes.foldl (crcByte (0x07 : BitVec 8)) 0xFF

/-- R195: the start delimiter of a cell-link frame. -/
def startDelimiter : Byte := 0x7E

/-- R195: what follows the delimiter: kind, length, payload and CRC-16, high byte first. -/
def frameBody (kind : Byte) (payload : List Byte) : List Byte :=
  let body := kind :: BitVec.ofNat 8 payload.length :: payload
  body ++ beBytes 2 (crc16 body).toNat

/-- R195: a whole cell-link frame. -/
def cellFrame (kind : Byte) (payload : List Byte) : List Byte :=
  startDelimiter :: frameBody kind payload

/-- The request codes that name a request (R198). -/
def requestCodes : List Byte :=
  [0x01, 0x02, 0x03, 0x04, 0x05, 0x06, 0x10, 0x11, 0x12, 0x13, 0x20, 0x21, 0x22, 0x30, 0x31,
   0x40, 0x41, 0x50, 0x51, 0x60, 0x70]

/-- R195: the mode code of a DEMAND. -/
def driveModeCode : DriveMode → Nat
  | .coast => 0
  | .road => 1
  | .speed => 2

end Sys2Proof.Machine
end

