-- ==== Sys2Proof/Machine/State.lean ====
section
/-! DEFINITION. The state of the part, block by block as the manual holds it, and the state after a
hard reset. Times are numbers of REFCLK periods (R1); every other quantity is in the unit of its
field. -/

namespace Sys2Proof.Machine

/-- No command stops the part: there is no fault. The eighteen fault flags of R190 are bits of State. -/
inductive Fault where
  deriving DecidableEq, Repr

inductive Refusal where
  /-- Raised by exec's arm of a command that has no meaning yet; safe. -/
  | notModelled (mnemonic : String)
  deriving DecidableEq, Repr

/-! ## Configuration store (R168) -/

/-- A station's direction, +1 or −1 (R3). -/
inductive Direction where
  | plus
  | minus
  deriving DecidableEq, Repr

/-- R3 -/
structure StationRec where
  present : Bool
  circumference : Nat
  radius : Nat
  direction : Direction
  share : Nat
  mechMass : Nat
  torqueLimit : Nat
  slew : Nat
  overspeed : Nat
  overspeedDebounce : Nat
  maxStep : Nat
  holdLimit : Nat
  accelWindow : Nat
  fallbackCounts : Nat
  fallbackTorque : Nat
  fallbackSpeed : Nat
  deriving DecidableEq, Repr

/-- R40 -/
inductive GroupKind where
  | mean
  | leader
  deriving DecidableEq, Repr

/-- R40 -/
structure GroupRec where
  members : BitVec 4
  kind : GroupKind
  leader : Fin 4
  kp : Nat
  ki : Nat
  integratorClamp : Nat
  authority : Nat
  captureCycles : Nat
  captureConfirm : Nat
  captureTimeout : Nat
  captureBand : Nat
  slipBand : Nat
  breakBand : Nat
  slipDebounce : Nat
  recoverCount : Nat
  breakCount : Nat
  driftLimit : Nat
  accelLimit : Nat
  accelWindow : Nat
  deriving DecidableEq, Repr

/-- R128 -/
structure SlotRec where
  enabled : Bool
  station : Fin 4
  address : Nat
  earliest : Nat
  close : Nat
  deriving DecidableEq, Repr

/-- R174 -/
structure CellRec where
  period : Nat
  tol : Nat
  missedLimit : Nat
  rejoinCount : Nat
  delay : Two Nat
  computeOffset : Nat
  demandHold : Nat
  jamLimit : Nat
  bootSkip : Two Bool
  reportWidth : Nat
  attention : BitVec 18
  deriving DecidableEq, Repr

/-- R30 -/
structure RoadRow where
  speed : Nat
  force : Nat
  deriving DecidableEq, Repr

/-- R30 -/
structure RoadTable where
  rows : List RoadRow
  band : Nat
  deriving DecidableEq, Repr

/-- R186 -/
inductive ItemKind where
  | null
  | stationMotion
  | stationDrive
  | group
  | slot
  | counters
  | check
  deriving DecidableEq, Repr

/-- R186 -/
structure SchedEntry where
  enabled : Bool
  kind : ItemKind
  operand : Nat
  position : Nat
  repetition : Nat
  offset : Nat
  deriving DecidableEq, Repr

/-- R168: the configuration store. -/
structure Store where
  cell : CellRec
  road : RoadTable
  stations : Four StationRec
  groups : Two GroupRec
  slots : Two (Four SlotRec)
  /-- Sixteen entries, 0 first (R186). -/
  schedule : List SchedEntry
  deriving DecidableEq, Repr

/-! ## Cell Port (R155) -/

/-- R156 -/
inductive RxState where
  | idleWait
  | ready
  | inFrame
  | discard
  deriving DecidableEq, Repr

structure PendingDemand where
  mode : DriveMode
  target : Nat
  mass : Nat
  arrived : Bool
  deriving DecidableEq, Repr

/-- The transmitter, and while it is SENDING the frame on the line and when it began (R163). -/
structure Transmitter where
  sending : Bool
  frame : List Byte
  since : Nat
  deriving DecidableEq, Repr

structure Port where
  rx : RxState
  /-- The bytes of the burst in progress after its start delimiter. -/
  burst : List Byte
  /-- The model's own: since when the line has carried no byte. -/
  quietSince : Nat
  pendingDemand : PendingDemand
  clampNotice : Bool
  linkErrors : Nat
  uplinkSkips : Nat
  tx : Transmitter
  replyOwed : Bool
  deriving DecidableEq, Repr

/-! ## Pacing Unit (R103) -/

inductive PacingState where
  | listen
  | acquire
  | confirm
  | tracking
  | freewheel
  | halted
  deriving DecidableEq, Repr

inductive HaltReason where
  | none
  | cellSilent
  | haltRequest
  | stopRequest
  deriving DecidableEq, Repr

/-- R103, with the moments the unit has set: `cpDue` that of the cycle's computation point while it
has not been taken (R106), `localDue` that of the next local cycle-begin in HALTED (R121, R123). -/
structure Pacing where
  state : PacingState
  haltReason : HaltReason
  anchor : Option Nat
  index : BitVec 6
  serial : BitVec 32
  confirm : Nat
  missed : Nat
  goodRun : Nat
  haltPending : Bool
  period : Nat
  tol : Nat
  offset : Nat
  early : Nat
  missedTotal : Nat
  ignored : Nat
  cut : Nat
  cpDue : Option Nat
  localDue : Nat
  deriving DecidableEq, Repr

/-! ## Segment Controllers (R127, R128) -/

inductive SegState where
  | down
  | boot
  | up
  | jammed
  deriving DecidableEq, Repr

/-- The reasons of the table of 7.1. -/
inductive SegReason where
  | none
  | bootStarted
  | bootSkipped
  | bootComplete
  | bootPartial
  | bootFailed
  | halt
  | jammed
  | jamCleared
  deriving DecidableEq, Repr

/-- R136 -/
inductive SlotClass where
  | none
  | good
  | overrun
  | check
  | address
  | kind
  deriving DecidableEq, Repr

/-- R137: a GOOD MEASURE record with its serial. -/
structure Measure where
  cps : Int
  torque : Int
  status : Byte
  serial : BitVec 32
  deriving DecidableEq, Repr

/-- R135: a window's candidate. One that is arriving holds the characters before a pause within it that
was too short to leave the line idle (R196). -/
inductive Candidate where
  | none
  | arriving (before : List Byte)
  | complete (chars : List Byte)
  deriving DecidableEq, Repr

/-- R134: the window a sent SYNC gives an enabled slot. -/
structure Window where
  opens : Nat
  closes : Nat
  serial : BitVec 32
  /-- The page the SYNC requested, in BOOT. -/
  page : Nat
  isOpen : Bool
  candidate : Candidate
  deriving DecidableEq, Repr

structure SlotRt where
  lastClass : SlotClass
  errors : Nat
  buffer : Option Measure
  window : Option Window
  deriving DecidableEq, Repr

structure PendingSync where
  due : Nat
  index : BitVec 6
  serial : BitVec 32
  deriving DecidableEq, Repr

/-- The SYNC last sent, and when its last character has left the line (R196). -/
structure SentSync where
  frame : List Byte
  ends : Nat
  deriving DecidableEq, Repr

structure Segment where
  state : SegState
  reason : SegReason
  bootCount : Nat
  withheld : Nat
  stray : Nat
  pendingSync : Option PendingSync
  slots : Four SlotRt
  /-- A drive is transmitting on the line. -/
  lineBusy : Bool
  /-- The end of the last character a drive sent, while no drive transmits (R196). -/
  lastEnd : Option Nat
  /-- The slot whose window has the latest transmission on the line as its candidate. -/
  replySlot : Option (Fin 4)
  sync : Option SentSync
  deriving DecidableEq, Repr

/-! ## Synchronisation Engine -/

inductive StationState where
  | absent
  | waiting
  | live
  | stale
  | faulted
  deriving DecidableEq, Repr

/-- The reasons of R4 and of STATION events (R200). -/
inductive StationReason where
  | none
  | segmentLost
  | noInit
  | badInit
  | driveFault
  | noData
  | overspeed
  | firstSample
  deriving DecidableEq, Repr

inductive InitMark where
  | none
  | noInit
  | badInit
  deriving DecidableEq, Repr

/-- R143, page 0: type code and firmware level. -/
structure Identity where
  typeCode : Nat
  firmware : Nat
  deriving DecidableEq, Repr

/-- R6 -/
structure InitValues where
  identity : Option Identity
  counts : Option Nat
  ratedTorque : Option Nat
  ratedSpeed : Option Nat
  mark : InitMark
  deriving DecidableEq, Repr

/-- R4 -/
structure StationRt where
  state : StationState
  reason : StationReason
  speed : Option Int
  accel : Int
  stale : Nat
  overspeed : Nat
  plausibility : Nat
  status : Option Byte
  torque : Option Int
  init : InitValues
  torqueLimit : Nat
  overspeedLimit : Nat
  slewMemory : Int
  ring : List Int
  deriving DecidableEq, Repr

/-- R23 -/
structure EffDemand where
  mode : DriveMode
  target : Nat
  mass : Nat
  age : Nat
  lost : Bool
  prevMode : DriveMode
  deriving DecidableEq, Repr

inductive GroupState where
  | opened
  | capturing
  | locked
  | slipping
  | broken
  deriving DecidableEq, Repr

inductive GroupReason where
  | none
  | engage
  | captured
  | slip
  | recovered
  | overBreak
  | captureTimeout
  | slipTimeout
  | memberFault
  | referenceChanged
  | release
  | halt
  | config
  deriving DecidableEq, Repr

/-- R42 -/
structure GroupRt where
  state : GroupState
  reason : GroupReason
  c : Nat
  inBand : Nat
  elapsed : Nat
  slipRun : Nat
  recoverRun : Nat
  slipCycles : Nat
  aEff : Nat
  measured : Option Int
  ramped : Option Int
  reference : Option Int
  ring : List Int
  refAccel : Int
  integrator : Four Int
  error : Four Int
  force : Four Int
  maxError : Nat
  maxIntegrator : Nat
  limiting : Bool
  brake : Bool
  deriving DecidableEq, Repr

/-- R70 -/
inductive Source where
  | safe
  | direct
  | computed
  deriving DecidableEq, Repr

/-- R70 -/
structure SetPoint where
  torque : Int
  source : Source
  limited : Bool
  slewed : Bool
  serial : BitVec 32
  deriving DecidableEq, Repr

/-- R79 -/
inductive EndCause where
  | none
  | expired
  | cancelled
  | replaced
  | stationLost
  | halt
  | restart
  deriving DecidableEq, Repr

/-- R79 -/
structure Direct where
  active : Bool
  torque : Int
  remaining : Nat
  endCause : EndCause
  deriving DecidableEq, Repr

/-! ## Probe Unit -/

/-- R88 -/
structure CheckContext where
  running : Bool
  group : Fin 2
  station : Fin 4
  pattern : BitVec 16
  length : Nat
  step : Nat
  offset : Nat
  band : Nat
  elapsed : Nat
  peak : Nat
  deriving DecidableEq, Repr

inductive CheckResult where
  | none
  | pass
  | fail
  | aborted
  deriving DecidableEq, Repr

/-- R89 -/
inductive CheckReason where
  | none
  | completed
  | capturing
  | slipping
  | broken
  | abortRequest
  | release
  | halt
  | restart
  deriving DecidableEq, Repr

/-- R89 -/
structure LastCheck where
  result : CheckResult
  reason : CheckReason
  group : Fin 2
  station : Fin 4
  length : Nat
  step : Nat
  peak : Nat
  cycles : Nat
  deriving DecidableEq, Repr

/-! ## Management Unit (R168) -/

inductive Mode where
  | config
  | operate
  deriving DecidableEq, Repr

/-- R171 -/
inductive ResultCode where
  | done
  | wrongMode
  | wrongState
  | busy
  | badArgument
  | tableCheck
  | unknown
  deriving DecidableEq, Repr

/-- The result, detail and data of a reply (R171). -/
structure Answer where
  result : ResultCode
  detail : Nat
  data : List Byte
  deriving DecidableEq, Repr

/-- R168: what the reply holder holds. -/
structure Reply where
  tag : Byte
  code : Byte
  answer : Answer
  serial : BitVec 32
  deriving DecidableEq, Repr

structure Mgmt where
  mode : Mode
  holder : Option Reply
  dropped : Nat
  droppedNotice : Bool
  deriving DecidableEq, Repr

/-! ## Report Unit (R184) -/

/-- The reasons of PACING events (R124). -/
inductive PacingReason where
  | firstStart
  | goodInterval
  | badStart
  | confirmed
  | silence
  | missed
  | rejoined
  | cellSilent
  | haltRequest
  | stopRequest
  deriving DecidableEq, Repr

/-- The reasons of CHECK events (R97). -/
inductive CheckOutcome where
  | pass
  | fail
  | aborted (reason : CheckReason)
  deriving DecidableEq, Repr

/-- R192: an event's kind with its source, reason and value. -/
inductive EventBody where
  | restarted
  | pacing (reason : PacingReason)
  | cycleSkew (skew : Nat)
  | mode (entered : Mode)
  | segment (seg : Seg) (reason : SegReason)
  | station (station : Fin 4) (reason : StationReason)
  | group (group : Fin 2) (reason : GroupReason) (maxError : Nat)
  | check (group : Fin 2) (outcome : CheckOutcome) (peak : Nat)
  /-- `lost` for reason LOST, not `lost` for RESTORED. -/
  | demand (lost : Bool)
  /-- `started` for reason START, not `started` for END. -/
  | direct (station : Fin 4) (started : Bool)
  deriving DecidableEq, Repr

structure Event where
  sequence : BitVec 16
  serial : BitVec 32
  body : EventBody
  deriving DecidableEq, Repr

structure Report where
  /-- The fault register, numbered as the mask of R198 is. -/
  faults : BitVec 18
  /-- Oldest first. -/
  queue : List Event
  nextSequence : BitVec 16
  overruns : Nat
  deriving DecidableEq, Repr

/-! ## The whole part -/

structure State where
  /-- The REFCLK period the part has reached (R1). -/
  now : Nat
  /-- The commands that wait, first in first out. -/
  pending : List Instr
  port : Port
  pacing : Pacing
  store : Store
  segs : Two Segment
  stations : Four StationRt
  demand : EffDemand
  groups : Two GroupRt
  setpoints : Four SetPoint
  directs : Four Direct
  check : CheckContext
  lastCheck : LastCheck
  mgmt : Mgmt
  report : Report
  /-- The model's own: how many of the manual's free choices have been taken. -/
  free : Nat
  deriving DecidableEq, Repr

/-! ## Hard reset values -/

/-- R3 -/
def StationRec.reset : StationRec :=
  { present := false, circumference := 0, radius := 0, direction := .plus, share := 0, mechMass := 0,
    torqueLimit := 0, slew := 0, overspeed := 0, overspeedDebounce := 0, maxStep := 0, holdLimit := 0,
    accelWindow := 0, fallbackCounts := 0, fallbackTorque := 0, fallbackSpeed := 0 }

/-- R40 -/
def GroupRec.reset : GroupRec :=
  { members := 0, kind := .mean, leader := 0, kp := 0, ki := 0, integratorClamp := 0, authority := 0,
    captureCycles := 0, captureConfirm := 0, captureTimeout := 0, captureBand := 0, slipBand := 0,
    breakBand := 0, slipDebounce := 0, recoverCount := 0, breakCount := 0, driftLimit := 0,
    accelLimit := 0, accelWindow := 0 }

/-- R128 -/
def SlotRec.reset : SlotRec :=
  { enabled := false, station := 0, address := 0, earliest := 0, close := 0 }

/-- R174 -/
def CellRec.reset : CellRec :=
  { period := 1000, tol := 20, missedLimit := 8, rejoinCount := 4, delay := ⟨0, 0⟩,
    computeOffset := 700, demandHold := 20, jamLimit := 3, bootSkip := ⟨false, false⟩,
    reportWidth := 0, attention := 0 }

/-- R186 -/
def SchedEntry.reset : SchedEntry :=
  { enabled := false, kind := .null, operand := 0, position := 0, repetition := 1, offset := 0 }

/-- R168 -/
def Store.reset : Store :=
  { cell := CellRec.reset, road := { rows := [], band := 0 },
    stations := Four.tabulate fun _ => StationRec.reset,
    groups := Two.tabulate fun _ => GroupRec.reset,
    slots := Two.tabulate fun _ => Four.tabulate fun _ => SlotRec.reset,
    schedule := List.replicate 16 SchedEntry.reset }

/-- R155 -/
def Port.reset : Port :=
  { rx := .idleWait, burst := [], quietSince := 0,
    pendingDemand := { mode := .coast, target := 0, mass := 1500, arrived := false },
    clampNotice := false, linkErrors := 0, uplinkSkips := 0,
    tx := { sending := false, frame := [], since := 0 }, replyOwed := false }

/-- R103 -/
def Pacing.reset : Pacing :=
  { state := .listen, haltReason := .none, anchor := none, index := 0, serial := 0, confirm := 0,
    missed := 0, goodRun := 0, haltPending := false, period := 1000, tol := 20, offset := 700,
    early := 0, missedTotal := 0, ignored := 0, cut := 0, cpDue := none, localDue := 0 }

/-- R128 -/
def SlotRt.reset : SlotRt := { lastClass := .none, errors := 0, buffer := none, window := none }

/-- R127 -/
def Segment.reset : Segment :=
  { state := .down, reason := .none, bootCount := 0, withheld := 0, stray := 0, pendingSync := none,
    slots := Four.tabulate fun _ => SlotRt.reset, lineBusy := false,
    lastEnd := none, replySlot := none, sync := none }

/-- R4, R6: cleared init values. -/
def InitValues.clear : InitValues :=
  { identity := none, counts := none, ratedTorque := none, ratedSpeed := none, mark := .none }

/-- R4 -/
def StationRt.reset : StationRt :=
  { state := .absent, reason := .none, speed := none, accel := 0, stale := 0, overspeed := 0,
    plausibility := 0, status := none, torque := none, init := InitValues.clear, torqueLimit := 0,
    overspeedLimit := 0, slewMemory := 0, ring := [] }

/-- R23 -/
def EffDemand.reset : EffDemand :=
  { mode := .coast, target := 0, mass := 1500, age := 0, lost := false, prevMode := .coast }

/-- R42 -/
def GroupRt.reset : GroupRt :=
  { state := .opened, reason := .none, c := 0, inBand := 0, elapsed := 0, slipRun := 0,
    recoverRun := 0, slipCycles := 0, aEff := 0, measured := none, ramped := none, reference := none,
    ring := [], refAccel := 0, integrator := Four.tabulate fun _ => 0,
    error := Four.tabulate fun _ => 0, force := Four.tabulate fun _ => 0, maxError := 0,
    maxIntegrator := 0, limiting := false, brake := false }

/-- R70: SAFE, with the serial it is written with. -/
def SetPoint.safe (serial : BitVec 32) : SetPoint :=
  { torque := 0, source := .safe, limited := false, slewed := false, serial := serial }

/-- R79 -/
def Direct.reset : Direct := { active := false, torque := 0, remaining := 0, endCause := .none }

/-- R88 -/
def CheckContext.reset : CheckContext :=
  { running := false, group := 0, station := 0, pattern := 0, length := 0, step := 0, offset := 0,
    band := 0, elapsed := 0, peak := 0 }

/-- R89 -/
def LastCheck.reset : LastCheck :=
  { result := .none, reason := .none, group := 0, station := 0, length := 0, step := 0, peak := 0,
    cycles := 0 }

/-- R168 -/
def Mgmt.reset : Mgmt :=
  { mode := .config, holder := none, dropped := 0, droppedNotice := false }

/-- R184 -/
def Report.reset : Report := { faults := 0, queue := [], nextSequence := 0, overruns := 0 }

/-- The part right after a hard reset, with nothing queued. -/
def State.reset : State :=
  { now := 0, pending := [], port := Port.reset, pacing := Pacing.reset, store := Store.reset,
    segs := Two.tabulate fun _ => Segment.reset, stations := Four.tabulate fun _ => StationRt.reset,
    demand := EffDemand.reset, groups := Two.tabulate fun _ => GroupRt.reset,
    setpoints := Four.tabulate fun _ => SetPoint.safe 0,
    directs := Four.tabulate fun _ => Direct.reset, check := CheckContext.reset,
    lastCheck := LastCheck.reset, mgmt := Mgmt.reset, report := Report.reset, free := 0 }

/-! ## Updates of one part of State -/

def State.setNow (s : State) (t : Nat) : State := { s with now := t }
def State.setPending (s : State) (q : List Instr) : State := { s with pending := q }
def State.setPort (s : State) (p : Port) : State := { s with port := p }
def State.setPacing (s : State) (p : Pacing) : State := { s with pacing := p }
def State.setStore (s : State) (x : Store) : State := { s with store := x }
def State.setSegs (s : State) (x : Two Segment) : State := { s with segs := x }
def State.setStations (s : State) (x : Four StationRt) : State := { s with stations := x }
def State.setDemand (s : State) (d : EffDemand) : State := { s with demand := d }
def State.setGroups (s : State) (x : Two GroupRt) : State := { s with groups := x }
def State.setSetpoints (s : State) (x : Four SetPoint) : State := { s with setpoints := x }
def State.setDirects (s : State) (x : Four Direct) : State := { s with directs := x }
def State.setCheck (s : State) (x : CheckContext) : State := { s with check := x }
def State.setLastCheck (s : State) (x : LastCheck) : State := { s with lastCheck := x }
def State.setMgmt (s : State) (x : Mgmt) : State := { s with mgmt := x }
def State.setReport (s : State) (x : Report) : State := { s with report := x }
def State.setFree (s : State) (n : Nat) : State := { s with free := n }

def State.seg (s : State) (g : Seg) : Segment := s.segs.get g.num
def State.setSeg (s : State) (g : Seg) (x : Segment) : State := s.setSegs (s.segs.set g.num x)
def State.station (s : State) (i : Fin 4) : StationRt := s.stations.get i
def State.setStation (s : State) (i : Fin 4) (x : StationRt) : State :=
  s.setStations (s.stations.set i x)
def State.group (s : State) (g : Fin 2) : GroupRt := s.groups.get g
def State.setGroup (s : State) (g : Fin 2) (x : GroupRt) : State := s.setGroups (s.groups.set g x)
def State.direct (s : State) (i : Fin 4) : Direct := s.directs.get i
def State.setDirect (s : State) (i : Fin 4) (x : Direct) : State :=
  s.setDirects (s.directs.set i x)
def State.slotRec (s : State) (g : Seg) (k : Fin 4) : SlotRec := (s.store.slots.get g.num).get k
def State.slot (s : State) (g : Seg) (k : Fin 4) : SlotRt := (s.seg g).slots.get k
def State.setSlot (s : State) (g : Seg) (k : Fin 4) (x : SlotRt) : State :=
  s.setSeg g { s.seg g with slots := (s.seg g).slots.set k x }

end Sys2Proof.Machine
end

