-- ==== Sys2Proof/Machine/Flags.lean ====
section
/-! DEFINITION. The fault register (R190): the eighteen flags, their mask bits (R198), latching and
clearing; and the flags of a drive's status byte (R197). -/

namespace Sys2Proof.Machine

/-- R190 -/
inductive Flag where
  | cycleEarly
  | cellSilent
  | demandLost
  | linkCheck
  | eventOverrun
  | segJammed (seg : Seg)
  | segSilent (seg : Seg)
  | slotError (seg : Seg)
  | stationFault (station : Fin 4)
  | lockBroken (group : Fin 2)
  | checkFailed
  deriving DecidableEq, Repr

/-- R198: the flag's bit in the register and in a mask. -/
def flagBit : Flag → Nat
  | .cycleEarly => 0
  | .cellSilent => 1
  | .demandLost => 2
  | .linkCheck => 3
  | .eventOverrun => 4
  | .segJammed g => 5 + g.num.val
  | .segSilent g => 7 + g.num.val
  | .slotError g => 9 + g.num.val
  | .stationFault i => 11 + i.val
  | .lockBroken g => 15 + g.val
  | .checkFailed => 17

/-- R191: the flags in the order in which CLEAR_FAULTS treats them. -/
def allFlags : List Flag :=
  [.cycleEarly, .cellSilent, .demandLost, .linkCheck, .eventOverrun, .segJammed .a, .segJammed .b,
   .segSilent .a, .segSilent .b, .slotError .a, .slotError .b, .stationFault 0, .stationFault 1,
   .stationFault 2, .stationFault 3, .lockBroken 0, .lockBroken 1, .checkFailed]

/-- The set of flags that holds only `f`. -/
def flagMask (f : Flag) : BitVec 18 := BitVec.twoPow 18 (flagBit f)

def isLatched (f : Flag) (s : State) : Bool := s.report.faults.getLsbD (flagBit f)

/-- R190: latching writes no event, and a latched flag stays latched. -/
def latch (f : Flag) (s : State) : State :=
  s.setReport { s.report with faults := s.report.faults ||| flagMask f }

def unlatch (f : Flag) (s : State) : State :=
  s.setReport { s.report with faults := s.report.faults &&& ~~~(flagMask f) }

/-- R190: ANY_FAULT. -/
def anyFault (s : State) : Bool := s.report.faults != 0

/-- R190: ATTN. -/
def attention (s : State) : Bool := (s.report.faults &&& s.store.cell.attention) != 0

/-! The status byte of a MEASURE reply (R197). -/

def statusReady (b : Byte) : Bool := b.getLsbD 0
def statusFault (b : Byte) : Bool := b.getLsbD 1
def statusBrake (b : Byte) : Bool := b.getLsbD 2
def statusLimiting (b : Byte) : Bool := b.getLsbD 3

end Sys2Proof.Machine
end

