-- ==== Sys2Proof/Machine/Ops.lean ====
section
/-! DEFINITION. The operations the commands share: the clock, the event queue, the derived limits,
which slot a station has, the ends of a DIRECT and of a coupling check, a group's entries to OPEN and
BROKEN. -/

namespace Sys2Proof.Machine

/-! ## Time -/

/-- A command is taken at its time, or now where that has passed already (R1).
DESIGN CHOICE, log entry 1. -/
def advance (t : Nat) (s : State) : State := s.setNow (max s.now t)

/-- The time since the anchor (R103), 0 without one. -/
def sinceAnchor (s : State) : Nat := s.now - s.pacing.anchor.getD 0

/-- R156: the reception of a frame's last CRC byte; the receiver enters IDLE_WAIT.
DESIGN CHOICE, log entry 23. -/
def frameArrived (s : State) : State :=
  s.setPort { s.port with rx := .idleWait, burst := [], quietSince := s.now }

/-- A frame that passed the link check arrives at `t` (R159, R160, R162). -/
def arrive (t : Nat) (s : State) : State := frameArrived (advance t s)

/-! ## Events (R192, R193) -/

/-- R193: appends a record; a full queue loses its oldest, counts it and latches EVENT_OVERRUN. The
serial is that of the last cycle-begin, which is also that of a computation point taken in its
cycle. -/
def writeEvent (body : EventBody) (s : State) : State :=
  let r := s.report
  let record : Event := { sequence := r.nextSequence, serial := s.pacing.serial, body := body }
  if r.queue.length < 32 then
    s.setReport { r with queue := r.queue ++ [record], nextSequence := r.nextSequence + 1 }
  else
    latch .eventOverrun (s.setReport { r with
      queue := r.queue.drop 1 ++ [record], nextSequence := r.nextSequence + 1,
      overruns := bump 255 r.overruns })

/-! ## Stations: init values and limits -/

/-- R6 -/
def validInit (v : InitValues) : Bool :=
  v.counts.isSome && v.ratedTorque.isSome && v.ratedSpeed.isSome && decide (v.mark = .none)

/-- R7: T_lim. -/
def torqueLimitOf (rec : StationRec) (v : InitValues) : Nat :=
  if rec.present then
    match v.ratedTorque with
    | some t => min rec.torqueLimit t
    | none => rec.torqueLimit
  else 0

/-- R7: the effective overspeed. -/
def overspeedLimitOf (rec : StationRec) (v : InitValues) : Nat :=
  if rec.present then
    match v.ratedSpeed with
    | some r => min rec.overspeed (roundDiv (r * rec.circumference : Nat) 60).toNat
    | none => rec.overspeed
  else 0

/-- R7: init values stored, with the limits derived again. -/
def withInit (rec : StationRec) (v : InitValues) (x : StationRt) : StationRt :=
  { x with init := v, torqueLimit := torqueLimitOf rec v, overspeedLimit := overspeedLimitOf rec v }

def setInit (i : Fin 4) (v : InitValues) (s : State) : State :=
  s.setStation i (withInit (s.store.stations.get i) v (s.station i))

/-- R4: the values on entry to WAITING. -/
def waitingRt (rec : StationRec) (x : StationRt) : StationRt :=
  { StationRt.reset with
    state := .waiting, plausibility := x.plausibility, init := x.init,
    torqueLimit := torqueLimitOf rec x.init, overspeedLimit := overspeedLimitOf rec x.init }

/-- R5: the values of a station whose record is made not present. -/
def absentRt (x : StationRt) : StationRt :=
  { StationRt.reset with plausibility := x.plausibility, init := x.init }

def liveOrStale (x : StationRt) : Bool := decide (x.state = .live) || decide (x.state = .stale)

/-- The speed a station supplies to the later stages (1.4). -/
def suppliedSpeed (x : StationRt) : Option Int := if liveOrStale x then x.speed else none

/-! ## Slots -/

/-- Every slot, in the order A1..A4, B1..B4. -/
def allSlots : List (Seg × Fin 4) :=
  [(.a, 0), (.a, 1), (.a, 2), (.a, 3), (.b, 0), (.b, 1), (.b, 2), (.b, 3)]

/-- R9: a station's slot is the enabled slot record that names it. -/
def stationSlot (store : Store) (i : Fin 4) : Option (Seg × Fin 4) :=
  allSlots.find? fun (g, k) =>
    let r := (store.slots.get g.num).get k
    r.enabled && decide (r.station = i)

/-- The enabled slots of a segment, in slot order. -/
def enabledSlots (store : Store) (g : Seg) : List (Fin 4) :=
  four.filter fun k => ((store.slots.get g.num).get k).enabled

/-- R142: the stations bound by the enabled slots of a segment. -/
def boundStations (store : Store) (g : Seg) : List (Fin 4) :=
  (enabledSlots store g).map fun k => ((store.slots.get g.num).get k).station

/-! ## Groups -/

def engaged (x : GroupRt) : Bool :=
  decide (x.state = .capturing) || decide (x.state = .locked) || decide (x.state = .slipping)

def isMember (r : GroupRec) (i : Fin 4) : Bool := r.members.getLsbD i.val

/-- The members of a group, lowest first. -/
def membersOf (r : GroupRec) : List (Fin 4) := four.filter (isMember r)

/-- The group whose member a station is; R41 leaves it at most one. -/
def groupOf (store : Store) (i : Fin 4) : Option (Fin 2) :=
  if isMember store.groups.x0 i then some 0 else if isMember store.groups.x1 i then some 1 else none

def zeros : Four Int := Four.tabulate fun _ => 0

/-- The six counts of R45, R63 and R64, at 0. -/
def zeroCounts (x : GroupRt) : GroupRt :=
  { x with c := 0, inBand := 0, elapsed := 0, slipRun := 0, recoverRun := 0, slipCycles := 0 }

/-- R61: a change of a group's state, with its reason and its GROUP event. -/
def groupEvent (g : Fin 2) (s : State) : State :=
  writeEvent (.group g (s.group g).reason (s.group g).maxError) s

/-- R64, R65, R66: the runtime record of a group that goes to OPEN. -/
def openedRt (reason : GroupReason) (x : GroupRt) : GroupRt :=
  { zeroCounts x with
    state := .opened, reason := reason, integrator := zeros, force := zeros, aEff := 0,
    ramped := none }

def openGroup (g : Fin 2) (reason : GroupReason) (s : State) : State :=
  groupEvent g (s.setGroup g (openedRt reason (s.group g)))

/-- R60: the runtime record of a group that goes to BROKEN. -/
def brokenRt (reason : GroupReason) (x : GroupRt) : GroupRt :=
  { x with state := .broken, reason := reason, integrator := zeros, force := zeros, aEff := 0 }

/-- R60 -/
def breakGroup (g : Fin 2) (reason : GroupReason) (s : State) : State :=
  groupEvent g (latch (.lockBroken g) (s.setGroup g (brokenRt reason (s.group g))))

/-! ## DIRECT (R83) -/

/-- R83: ends a station's DIRECT, where one is active, with its DIRECT END event. -/
def endDirect (cause : EndCause) (i : Fin 4) (s : State) : State :=
  if (s.direct i).active then
    writeEvent (.direct i false)
      (s.setDirect i { s.direct i with active := false, remaining := 0, endCause := cause })
  else s

/-- R83: ends every active DIRECT, lowest station first. -/
def endDirects (cause : EndCause) (s : State) : State :=
  four.foldl (fun s i => endDirect cause i s) s

/-! ## The end of a coupling check (R97) -/

/-- R97: the last-check record a check leaves. -/
def lastCheckOf (c : CheckContext) (result : CheckResult) (reason : CheckReason) : LastCheck :=
  { result := result, reason := reason, group := c.group, station := c.station, length := c.length,
    step := c.step, peak := c.peak, cycles := c.elapsed }

/-- R97: ends the check, with its CHECK event. -/
def endCheck (result : CheckResult) (reason : CheckReason) (outcome : CheckOutcome) (s : State) :
    State :=
  writeEvent (.check s.check.group outcome s.check.peak)
    ((s.setCheck { s.check with running := false }).setLastCheck (lastCheckOf s.check result reason))

/-- R98, R99: ends a running check ABORTED. -/
def abortCheck (reason : CheckReason) (s : State) : State :=
  if s.check.running then endCheck .aborted reason (.aborted reason) s else s

end Sys2Proof.Machine
end

