-- ==== Sys2Proof/Machine/Intake.lean ====
section
/-! DEFINITION. The first stages of a computation point: demand intake (R24 to R28), station intake
(R8 to R16, R19, R20), the history ring and the acceleration (R17, R18). -/

namespace Sys2Proof.Machine

/-! ## Demand intake -/

/-- R28: the effective mode. -/
def effectiveMode (d : EffDemand) : DriveMode := if d.lost then .coast else d.mode

/-- R24: the pending demand adopted. -/
def adoptDemand (p : PendingDemand) (d : EffDemand) : EffDemand :=
  { d with mode := p.mode, target := p.target, mass := p.mass, age := 0 }

/-- R24, R27: the adoption, which restores a lost demand. -/
def adopt (s : State) : State :=
  let wasLost := s.demand.lost
  let s := s.setDemand { adoptDemand s.port.pendingDemand s.demand with lost := false }
  let s := s.setPort { s.port with pendingDemand := { s.port.pendingDemand with arrived := false } }
  if wasLost then writeEvent (.demand false) s else s

/-- R26: the loss of the demand. -/
def loseDemand (s : State) : State :=
  if s.store.cell.demandHold < s.demand.age ∧ s.demand.lost = false then
    writeEvent (.demand true) (latch .demandLost (s.setDemand { s.demand with lost := true }))
  else s

/-- R24, R26: the demand held for one more computation point. -/
def ageDemand (s : State) : State :=
  loseDemand (s.setDemand { s.demand with age := bump 255 s.demand.age })

/-- R24, R26, R27 -/
def demandIntake (s : State) : State :=
  if s.port.pendingDemand.arrived then adopt s else ageDemand s

/-- R28: whether a reference change is handed to the engaged groups. -/
def referenceChange (d : EffDemand) : Bool :=
  decide (effectiveMode d ≠ d.prevMode)
    && (decide (effectiveMode d = .speed) || decide (d.prevMode = .speed))

/-- R28: the previous effective mode becomes the present one, which the later stages read there. -/
def keepMode (s : State) : State :=
  s.setDemand { s.demand with prevMode := effectiveMode s.demand }

/-! ## Station intake -/

/-- R20: the entry to FAULTED; it ends the station's DIRECT (R83) after its STATION event. -/
def enterFaulted (i : Fin 4) (reason : StationReason) (s : State) : State :=
  let s := s.setStation i { s.station i with state := .faulted, reason := reason }
  endDirect .stationLost i (writeEvent (.station i reason) (latch (.stationFault i) s))

/-- R9: the state of a station's segment. -/
def stationSegState (s : State) (i : Fin 4) : Option SegState :=
  (stationSlot s.store i).map fun gk => (s.seg gk.1).state

/-- R10: a station's fresh record. -/
def freshRecord (s : State) (i : Fin 4) : Option Measure :=
  match stationSlot s.store i with
  | none => none
  | some (g, k) =>
    match (s.slot g k).buffer with
    | some m => if m.serial = s.pacing.serial then some m else none
    | none => none

def directionSign : Direction → Int
  | .plus => 1
  | .minus => -1

/-- R10: the surface speed of a record, where it can be converted. -/
def surfaceSpeed (rec : StationRec) (v : InitValues) (m : Measure) : Option Int :=
  if validInit v then
    some (clampAbs 90000000
      (roundDiv (m.cps * directionSign rec.direction * rec.circumference) (v.counts.getD 0)))
  else none

/-- R11: status and measured torque of a fresh record. -/
def takeReading (m : Measure) (x : StationRt) : StationRt :=
  { x with status := some m.status, torque := some m.torque }

/-- R11, R19: the speed of a converted record, kept without one. -/
def speedOr (v : Option Int) (x : StationRt) : StationRt :=
  match v with
  | some z => { x with speed := some z }
  | none => x

/-- R16 -/
def overspeedTest (i : Fin 4) (s : State) : State :=
  let x := s.station i
  let rec_ := s.store.stations.get i
  if x.overspeedLimit ≤ (x.speed.getD 0).natAbs then
    let s := s.setStation i { x with overspeed := x.overspeed + 1 }
    if rec_.overspeedDebounce ≤ x.overspeed + 1 then enterFaulted i .overspeed s else s
  else s.setStation i { x with overspeed := 0 }

/-- R15: no usable sample. -/
def noSample (i : Fin 4) (s : State) : State :=
  let x := s.station i
  if liveOrStale x then
    let s := s.setStation i { x with state := .stale, stale := x.stale + 1 }
    if (s.store.stations.get i).holdLimit < x.stale + 1 then enterFaulted i .noData s
    else overspeedTest i s
  else s

/-- R14: the sample is adopted. -/
def adoptSample (i : Fin 4) (v : Int) (s : State) : State :=
  let x := s.station i
  let first := decide (x.state = .waiting)
  let s := s.setStation i { x with state := .live, speed := some v, stale := 0 }
  let s := if first then writeEvent (.station i .firstSample) s else s
  overspeedTest i s

/-- R13: whether a sample is rejected. -/
def implausible (rec : StationRec) (x : StationRt) (v : Int) : Bool :=
  match x.speed with
  | some last => decide (rec.maxStep < (v - last).natAbs)
  | none => false

/-- R13, R14: a converted sample of a drive that is READY. -/
def sample (i : Fin 4) (v : Int) (s : State) : State :=
  let x := s.station i
  if implausible (s.store.stations.get i) x v then
    noSample i (s.setStation i { x with plausibility := bump 255 x.plausibility })
  else adoptSample i v s

/-- R10 to R15: a fresh record of a station in WAITING, LIVE or STALE. -/
def intakeRecord (i : Fin 4) (m : Measure) (s : State) : State :=
  let v := surfaceSpeed (s.store.stations.get i) (s.station i).init m
  let s := s.setStation i (takeReading m (s.station i))
  if statusFault m.status then
    enterFaulted i .driveFault (s.setStation i (speedOr v (s.station i)))
  else if statusReady m.status then
    match v with
    | some z => sample i z s
    | none => noSample i s
  else noSample i s

/-- R9: the reason of a station marked NO_INIT or BAD_INIT. -/
def markReason : InitMark → Option StationReason
  | .none => none
  | .noInit => some .noInit
  | .badInit => some .badInit

/-- R9: what the test of the segment and the init mark finds; nothing for a station without a slot. -/
def segmentTest (s : State) (i : Fin 4) : Option StationReason :=
  match stationSegState s i with
  | none => none
  | some .jammed => some .segmentLost
  | some .down | some .boot | some .up => markReason (s.station i).init.mark

/-- R9 to R16 -/
def intakeRunning (i : Fin 4) (s : State) : State :=
  match segmentTest s i with
  | some reason => enterFaulted i reason s
  | none =>
    match freshRecord s i with
    | some m => intakeRecord i m s
    | none => noSample i s

/-- R19: a station already FAULTED. -/
def intakeFaulted (i : Fin 4) (s : State) : State :=
  match freshRecord s i with
  | some m =>
    let v := surfaceSpeed (s.store.stations.get i) (s.station i).init m
    s.setStation i (speedOr v (takeReading m (s.station i)))
  | none => s

/-- R8: one station's intake. -/
def intakeStation (s : State) (i : Fin 4) : State :=
  if (s.store.stations.get i).present then
    match (s.station i).state with
    | .absent => s
    | .faulted => intakeFaulted i s
    | .waiting | .live | .stale => intakeRunning i s
  else s

/-- R8: every station's intake, lowest first. -/
def stationIntake (s : State) : State := four.foldl intakeStation s

/-! ## Rings and accelerations -/

/-- R17, R48: a ring of up to eight speeds, oldest first. -/
def pushRing (ring : List Int) (v : Int) : List Int :=
  if ring.length < 8 then ring ++ [v] else ring.drop (ring.length - 7) ++ [v]

/-- R18, R48: (newest − the entry k places older) × 1000 / (k × P), clamped; 0 while the ring is
short. -/
def ringAccel (ring : List Int) (k period : Nat) : Int :=
  if ring.length < k + 1 then 0
  else
    let newest := (ring.getLast?).getD 0
    let older := ((ring.take (ring.length - k)).getLast?).getD 0
    clampAbs 50000 (roundDiv ((newest - older) * 1000) (k * period))

/-- R17, R18 -/
def updateMotion (rec : StationRec) (period : Nat) (x : StationRt) : StationRt :=
  if liveOrStale x then
    let ring := pushRing x.ring (x.speed.getD 0)
    { x with ring := ring, accel := ringAccel ring rec.accelWindow period }
  else { x with accel := 0 }

/-- R17, R18, for every station. DEDUCED, log entry 15: with the period in force. -/
def motionStage (s : State) : State :=
  s.setStations (Four.tabulate fun i =>
    updateMotion (s.store.stations.get i) s.pacing.period (s.station i))

end Sys2Proof.Machine
end

