-- ==== Sys2Proof/Machine/Groups.lean ====
section
/-! DEFINITION. The engine's stages for the lock groups: the reference stage (R43 to R49), road
kinematics and forces (R32 to R38), the lock stage (R50 to R60). -/

namespace Sys2Proof.Machine

/-! ## The reference stage -/

/-- R44 -/
def memberTest (g : Fin 2) (s : State) : State :=
  if engaged (s.group g)
      && (membersOf (s.store.groups.get g)).any fun i => decide ((s.station i).state = .faulted)
  then breakGroup g .memberFault s
  else s

/-- R45: the runtime record of a capture that starts again. -/
def restartCaptureRt (x : GroupRt) : GroupRt :=
  { zeroCounts x with
    state := .capturing, reason := .referenceChanged, integrator := zeros, ramped := none }

/-- R45 -/
def applyReferenceChange (change : Bool) (g : Fin 2) (s : State) : State :=
  if change && engaged (s.group g) then
    groupEvent g (s.setGroup g (restartCaptureRt (s.group g)))
  else s

/-- The speeds of the members that are LIVE or STALE. -/
def memberSpeeds (s : State) (g : Fin 2) : List Int :=
  (membersOf (s.store.groups.get g)).filterMap fun i => suppliedSpeed (s.station i)

/-- R46: the measured reference of this computation point, where one exists. -/
def measuredNow (s : State) (g : Fin 2) : Option Int :=
  let r := s.store.groups.get g
  match r.kind with
  | .mean =>
    let speeds := memberSpeeds s g
    if speeds.isEmpty then none else some (roundDiv speeds.sum speeds.length)
  | .leader => suppliedSpeed (s.station r.leader)

/-- R47: one step of the ramp. -/
def rampStep (r : GroupRec) (period : Nat) : Nat :=
  max 1 (roundDiv (r.accelLimit * period : Nat) 1000).toNat

/-- R47: the ramped target moved toward the demanded target. -/
def ramp (step : Nat) (target current : Int) : Int :=
  if (target - current).natAbs ≤ step then target
  else if current < target then current + step
  else current - step

/-- R47: the ramped target of an engaged group in SPEED. -/
def rampedNow (s : State) (g : Fin 2) (measured : Option Int) : Option Int :=
  match (s.group g).ramped with
  | none => measured
  | some z =>
    some (ramp (rampStep (s.store.groups.get g) s.pacing.period) ((s.demand.target * 1000 : Nat) : Int) z)

/-- R46, R47: the three references a group takes at this computation point. DEDUCED, log entry 8. -/
def takeReferences (s : State) (g : Fin 2) : GroupRt :=
  let x := s.group g
  let now := measuredNow s g
  let measured := now.or x.measured
  if engaged x && decide (s.demand.prevMode = .speed) then
    let r := rampedNow s g measured
    { x with measured := measured, ramped := r, reference := r }
  else
    { x with measured := measured, ramped := none, reference := now.or x.reference }

/-- R48. DEDUCED, log entry 8: a held reference is appended too. -/
def pushReference (r : GroupRec) (period : Nat) (x : GroupRt) : GroupRt :=
  match x.reference with
  | some z =>
    let ring := pushRing x.ring z
    { x with ring := ring, refAccel := ringAccel ring r.accelWindow period }
  | none => { x with refAccel := 0 }

/-- R49: whether a flag of the drive status is set in some member. -/
def anyStatus (s : State) (g : Fin 2) (flag : Byte → Bool) : Bool :=
  (membersOf (s.store.groups.get g)).any fun i =>
    match (s.station i).status with
    | some b => flag b
    | none => false

/-- R49 -/
def statusOr (s : State) (g : Fin 2) (x : GroupRt) : GroupRt :=
  { x with limiting := anyStatus s g statusLimiting, brake := anyStatus s g statusBrake }

/-- R43: the reference stage of one group. -/
def referenceStage (change : Bool) (g : Fin 2) (s : State) : State :=
  let r := s.store.groups.get g
  if r.members = 0 then s
  else
    let s := applyReferenceChange change g (memberTest g s)
    s.setGroup g (statusOr s g (pushReference r s.pacing.period (takeReferences s g)))

/-! ## Road kinematics and forces -/

/-- R32: the engaged group whose kinematics a station takes. -/
def engagedGroupOf (s : State) (i : Fin 4) : Option (Fin 2) :=
  match groupOf s.store i with
  | some g => if engaged (s.group g) then some g else none
  | none => none

/-- R32, R33: road speed and road acceleration. -/
def kinematics (s : State) (i : Fin 4) : Option (Int × Int) :=
  let x := s.station i
  if (s.store.stations.get i).present && liveOrStale x then
    match engagedGroupOf s i with
    | some g => (s.group g).reference.map fun z => (z, (s.group g).refAccel)
    | none => x.speed.map fun z => (z, x.accel)
  else none

/-- R35: interpolation in the row pair that holds the speed; rows as (speed in µm/s, force). -/
def interpolate (speed : Nat) : List RoadRow → Int
  | a :: b :: rest =>
    let s0 := a.speed * 1000
    let s1 := b.speed * 1000
    if speed < s1 then
      roundDiv ((a.force : Int) * ((s1 : Int) - s0) + ((b.force : Int) - a.force) * ((speed : Int) - s0))
        (s1 - s0)
    else interpolate speed (b :: rest)
  | [a] => a.force
  | [] => 0

/-- R31, last paragraph: the band is greater than the first breakpoint, and no breakpoint above the band is
at or below the speed. -/
def underBreakpointsAboveBand (t : RoadTable) (first : RoadRow) (speed : Nat) : Bool :=
  decide (first.speed * 1000 < t.band)
    && t.rows.all fun r => decide (r.speed * 1000 ≤ t.band) || decide (speed < r.speed * 1000)

/-- R34: the vehicle force; 0 with no rows (R30). Above a band greater than the first breakpoint R31 gives
the first row's force up to the breakpoints above, and R34 with R35 the interpolation: a free choice of
Config. DESIGN CHOICE, log entry 40. -/
def vehicleForce (t : RoadTable) (speed : Nat) : Int :=
  match t.rows.head?, t.rows.getLast? with
  | some first, some last =>
    if speed ≤ t.band then 0
    else if speed ≤ first.speed * 1000 then first.force
    else if last.speed * 1000 ≤ speed then last.force
    else if underBreakpointsAboveBand t first speed && Config.firstRowAboveBand then first.force
    else interpolate speed t.rows
  | _, _ => 0

/-- R36 -/
def roadLoadForce (t : RoadTable) (share : Nat) (roadSpeed : Int) : Int :=
  roundDiv (vehicleForce t roadSpeed.natAbs * share) 1024 * roadSpeed.sign

/-- R37 -/
def inertiaForce (mass share mechMass : Nat) (roadAccel : Int) : Int :=
  roundDiv (((mass * share : Nat) - (1024 * mechMass : Nat) : Int) * roadAccel) 1024000

/-- R38: the road-load and inertia forces after the mode gate. -/
def gatedForces (s : State) (i : Fin 4) : Int × Int :=
  match s.demand.prevMode, kinematics s i with
  | .road, some (v, a) =>
    let rec_ := s.store.stations.get i
    (roadLoadForce s.store.road rec_.share v,
      inertiaForce s.demand.mass rec_.share rec_.mechMass a)
  | _, _ => (0, 0)

/-! ## The lock stage -/

/-- R51 -/
def setAuthority (r : GroupRec) (x : GroupRt) : GroupRt :=
  match x.state with
  | .capturing =>
    let c := min (x.c + 1) r.captureCycles
    { x with c := c, elapsed := x.elapsed + 1, aEff := r.authority * c / r.captureCycles }
  | .locked | .slipping => { x with aEff := r.authority }
  | .opened | .broken => { x with aEff := 0 }

/-- R50: the leader of a LEADER group outside SPEED is not corrected. -/
def isFreeLeader (r : GroupRec) (mode : DriveMode) (i : Fin 4) : Bool :=
  decide (r.kind = .leader) && decide (mode ≠ .speed) && decide (r.leader = i)

/-- R50, R55: a member's speed less the reference; 0 where either is missing.
DESIGN CHOICE, log entry 25. -/
def speedError (x : StationRt) (reference : Option Int) : Int :=
  match suppliedSpeed x, reference with
  | some v, some r => v - r
  | _, _ => 0

/-- R52: the tentative integrator. -/
def tentative (r : GroupRec) (period : Nat) (e integrator : Int) : Int :=
  clampAbs (r.integratorClamp * 1000) (integrator + roundDiv (e * period) 1000)

/-- R53: the unlimited force. -/
def unlimited (r : GroupRec) (e integrator : Int) : Int :=
  roundDiv (r.kp * e + r.ki * integrator) 1000000

/-- R53: whether the tentative integrator is discarded. -/
def windsUp (aEff : Nat) (e force : Int) : Bool :=
  decide (aEff < force.natAbs) && decide (e.sign = force.sign)

/-- R52, R53: the integrator kept and the correction force. -/
def correct (r : GroupRec) (period aEff : Nat) (e integrator : Int) : Int × Int :=
  let i' := tentative r period e integrator
  let f := unlimited r e i'
  if windsUp aEff e f then (integrator, clampAbs aEff (unlimited r e integrator))
  else (i', clampAbs aEff f)

/-- R50 to R53: error, integrator and force of one station in an engaged group. -/
def lockMember (s : State) (r : GroupRec) (x : GroupRt) (i : Fin 4) : Int × Int × Int :=
  if isMember r i then
    if isFreeLeader r s.demand.prevMode i then (0, 0, 0)
    else
      let e := speedError (s.station i) x.reference
      let out := correct r s.pacing.period x.aEff e (x.integrator.get i)
      (e, out.1, out.2)
  else (0, 0, 0)

def maxAbs (v : Four Int) : Nat :=
  max (max (v.get 0).natAbs (v.get 1).natAbs) (max (v.get 2).natAbs (v.get 3).natAbs)

/-- R54: the metrics; the entries of stations that are not members are 0. -/
def withMetrics (x : GroupRt) : GroupRt :=
  { x with maxError := maxAbs x.error, maxIntegrator := maxAbs x.integrator }

/-- R50 to R54 -/
def engagedForces (s : State) (r : GroupRec) (x : GroupRt) : GroupRt :=
  withMetrics { x with
    error := Four.tabulate fun i => (lockMember s r x i).1,
    integrator := Four.tabulate fun i => (lockMember s r x i).2.1,
    force := Four.tabulate fun i => (lockMember s r x i).2.2 }

/-- R55 -/
def restingForces (s : State) (r : GroupRec) (x : GroupRt) : GroupRt :=
  withMetrics { x with
    error := Four.tabulate fun i => if isMember r i then speedError (s.station i) x.reference else 0,
    integrator := zeros, force := zeros }

/-- What the state tests of R57 to R59 decide. -/
inductive LockVerdict where
  | stay
  | lock (reason : GroupReason)
  | slip
  | break_ (reason : GroupReason)
  deriving DecidableEq, Repr

/-- R57: the in-band count. -/
def countInBand (r : GroupRec) (x : GroupRt) : GroupRt :=
  { x with inBand := if x.maxError ≤ r.captureBand then bump 255 x.inBand else 0 }

/-- R57 -/
def capturingVerdict (r : GroupRec) (x : GroupRt) : LockVerdict :=
  if x.c = r.captureCycles ∧ r.breakBand < x.maxError then .break_ .overBreak
  else if x.c = r.captureCycles ∧ r.captureConfirm ≤ x.inBand then .lock .captured
  else if x.elapsed = r.captureCycles + r.captureTimeout then .break_ .captureTimeout
  else .stay

/-- R58, R59: beyond the slip band, or drifted. -/
def slipCondition (r : GroupRec) (x : GroupRt) : Bool :=
  decide (r.slipBand < x.maxError) || decide (r.driftLimit * 1000 ≤ x.maxIntegrator)

/-- R58: the slip run; the break band is tested before it. -/
def countSlip (r : GroupRec) (x : GroupRt) : GroupRt :=
  if r.breakBand < x.maxError then x
  else { x with slipRun := if slipCondition r x then x.slipRun + 1 else 0 }

/-- R58 -/
def lockedVerdict (r : GroupRec) (x : GroupRt) : LockVerdict :=
  if r.breakBand < x.maxError then .break_ .overBreak
  else if slipCondition r x ∧ r.slipDebounce ≤ x.slipRun then .slip
  else .stay

/-- R59: the slip cycles and the recover run; the break band is tested before the recovery. -/
def countRecovery (r : GroupRec) (x : GroupRt) : GroupRt :=
  let x := { x with slipCycles := x.slipCycles + 1 }
  if r.breakBand < x.maxError then x
  else { x with recoverRun := if slipCondition r x then 0 else x.recoverRun + 1 }

/-- R59 -/
def slippingVerdict (r : GroupRec) (x : GroupRt) : LockVerdict :=
  if r.breakBand < x.maxError then .break_ .overBreak
  else if (slipCondition r x = false) ∧ r.recoverCount ≤ x.recoverRun then .lock .recovered
  else if x.slipCycles = r.breakCount then .break_ .slipTimeout
  else .stay

/-- R56 to R59: the counts as the tests of the state held at the start leave them, and the verdict. -/
def judgeLock (r : GroupRec) (x : GroupRt) : GroupRt × LockVerdict :=
  match x.state with
  | .capturing => (countInBand r x, capturingVerdict r (countInBand r x))
  | .locked => (countSlip r x, lockedVerdict r (countSlip r x))
  | .slipping => (countRecovery r x, slippingVerdict r (countRecovery r x))
  | .opened | .broken => (x, .stay)

/-- R56 to R60: the verdict carried out. A break leaves every integrator 0, and with them the
greatest |I| (R54). DEDUCED, log entry 10. -/
def carryVerdict (g : Fin 2) (x : GroupRt) (v : LockVerdict) (s : State) : State :=
  match v with
  | .stay => s.setGroup g x
  | .lock reason =>
    groupEvent g (s.setGroup g { x with state := .locked, reason := reason, slipRun := 0 })
  | .slip =>
    groupEvent g
      (s.setGroup g { x with state := .slipping, reason := .slip, slipCycles := 0, recoverRun := 0 })
  | .break_ reason => breakGroup g reason (s.setGroup g { x with maxIntegrator := 0 })

/-- R50 to R60: the lock stage of one group. -/
def lockStage (g : Fin 2) (s : State) : State :=
  let r := s.store.groups.get g
  if r.members = 0 then s
  else
    let x := setAuthority r (s.group g)
    if engaged x then
      let out := judgeLock r (engagedForces s r x)
      carryVerdict g out.1 out.2 s
    else s.setGroup g (restingForces s r x)

end Sys2Proof.Machine
end

