-- ==== Sys2Proof/Machine/Codes.lean ====
section
/-! DEFINITION. The codes by which states, reasons, kinds and results stand in frames and replies
(R195 to R200). -/

namespace Sys2Proof.Machine

/-- R199, status header. -/
def pacingStateCode : PacingState → Nat
  | .listen => 0
  | .acquire => 1
  | .confirm => 2
  | .tracking => 3
  | .freewheel => 4
  | .halted => 5

def modeCode : Mode → Nat
  | .config => 0
  | .operate => 1

def groupStateCode : GroupState → Nat
  | .opened => 0
  | .capturing => 1
  | .locked => 2
  | .slipping => 3
  | .broken => 4

/-- R199, STATION_MOTION. -/
def stationStateCode : StationState → Nat
  | .absent => 0
  | .waiting => 1
  | .live => 2
  | .stale => 3
  | .faulted => 4

/-- R199, STATION_DRIVE; R196, SYNC entries. -/
def sourceCode : Source → Nat
  | .safe => 0
  | .direct => 1
  | .computed => 2

/-- R199, SLOT. -/
def slotClassCode : SlotClass → Nat
  | .none => 0
  | .good => 1
  | .overrun => 2
  | .check => 3
  | .address => 4
  | .kind => 5

/-- R199, CHECK. -/
def checkResultCode : CheckResult → Nat
  | .none => 0
  | .pass => 1
  | .fail => 2
  | .aborted => 3

/-- R199, items. -/
def itemKindCode : ItemKind → Nat
  | .null => 0
  | .stationMotion => 1
  | .stationDrive => 2
  | .group => 3
  | .slot => 4
  | .counters => 5
  | .check => 6

/-- R186, R199: the item kind a code names. -/
def itemKindOf : Nat → Option ItemKind
  | 0 => some .null
  | 1 => some .stationMotion
  | 2 => some .stationDrive
  | 3 => some .group
  | 4 => some .slot
  | 5 => some .counters
  | 6 => some .check
  | _ => none

/-- R199, reply part. -/
def resultCode : ResultCode → Nat
  | .done => 0
  | .wrongMode => 1
  | .wrongState => 2
  | .busy => 3
  | .badArgument => 4
  | .tableCheck => 5
  | .unknown => 6

/-! Reasons (R200). -/

def stationReasonCode : StationReason → Nat
  | .none => 0
  | .segmentLost => 1
  | .noInit => 2
  | .badInit => 3
  | .driveFault => 4
  | .noData => 5
  | .overspeed => 6
  | .firstSample => 7

def initMarkCode : InitMark → Nat
  | .none => 0
  | .noInit => 1
  | .badInit => 2

def groupReasonCode : GroupReason → Nat
  | .none => 0
  | .engage => 1
  | .captured => 2
  | .slip => 3
  | .recovered => 4
  | .overBreak => 5
  | .captureTimeout => 6
  | .slipTimeout => 7
  | .memberFault => 8
  | .referenceChanged => 9
  | .release => 10
  | .halt => 11
  | .config => 12

def segReasonCode : SegReason → Nat
  | .none => 0
  | .bootStarted => 1
  | .bootSkipped => 2
  | .bootComplete => 3
  | .bootPartial => 4
  | .bootFailed => 5
  | .halt => 6
  | .jammed => 7
  | .jamCleared => 8

def pacingReasonCode : PacingReason → Nat
  | .firstStart => 1
  | .goodInterval => 2
  | .badStart => 3
  | .confirmed => 4
  | .silence => 5
  | .missed => 6
  | .rejoined => 7
  | .cellSilent => 8
  | .haltRequest => 9
  | .stopRequest => 10

/-- R200: the halt reason has the codes of the PACING reasons. -/
def haltReasonCode : HaltReason → Nat
  | .none => 0
  | .cellSilent => 8
  | .haltRequest => 9
  | .stopRequest => 10

def endCauseCode : EndCause → Nat
  | .none => 0
  | .expired => 1
  | .cancelled => 2
  | .replaced => 3
  | .stationLost => 4
  | .halt => 5
  | .restart => 6

def checkReasonCode : CheckReason → Nat
  | .none => 0
  | .completed => 1
  | .capturing => 2
  | .slipping => 3
  | .broken => 4
  | .abortRequest => 5
  | .release => 6
  | .halt => 7
  | .restart => 8

/-- R200: the reasons of CHECK events. An abort with a reason that R200 does not list, which no run writes,
has code 0: DESIGN CHOICE, log entry 25. -/
def checkOutcomeCode : CheckOutcome → Nat
  | .pass => 1
  | .fail => 2
  | .aborted .capturing => 3
  | .aborted .slipping => 4
  | .aborted .broken => 5
  | .aborted .abortRequest => 6
  | .aborted .release => 7
  | .aborted .halt => 8
  | .aborted .restart => 9
  | .aborted .none => 0
  | .aborted .completed => 0

/-- R3, R198: a direction is 0x01 or 0xFF. -/
def directionCode : Direction → Nat
  | .plus => 0x01
  | .minus => 0xFF

def groupKindCode : GroupKind → Nat
  | .mean => 0
  | .leader => 1

/-! Codes that R200 does not state. -/

/-- Free value, log entry 6. -/
def segStateField (x : SegState) : List Byte :=
  [Config.segmentStateCode (match x with
    | .down => 0
    | .boot => 1
    | .up => 2
    | .jammed => 3)]

/-- Free value, log entry 6. -/
def transmitterField (sending : Bool) : List Byte :=
  [Config.transmitterCode (if sending then 1 else 0)]

/-- Free value, log entry 6. -/
def checkStateField (running : Bool) : List Byte :=
  [Config.checkStateCode (if running then 1 else 0)]

/-! Event records (R192, R200). -/

/-- Kind, source class and index, reason, value. -/
def eventFields : EventBody → Nat × Nat × Nat × Nat
  | .restarted => (0, 0x00, 0, 0)
  | .pacing r => (1, 0x00, pacingReasonCode r, 0)
  | .cycleSkew v => (2, 0x00, 0, v)
  | .mode .operate => (3, 0x00, 1, 0)
  | .mode .config => (3, 0x00, 2, 0)
  | .segment g r => (4, 0x10 + g.num.val, segReasonCode r, 0)
  | .station i r => (5, 0x20 + i.val, stationReasonCode r, 0)
  | .group g r v => (6, 0x30 + g.val, groupReasonCode r, v)
  | .check g o v => (7, 0x30 + g.val, checkOutcomeCode o, v)
  | .demand true => (8, 0x00, 1, 0)
  | .demand false => (8, 0x00, 2, 0)
  | .direct i true => (9, 0x20 + i.val, 1, 0)
  | .direct i false => (9, 0x20 + i.val, 2, 0)

/-- R200: the 13 bytes of an event record. -/
def eventBytes (e : Event) : List Byte :=
  let f := eventFields e.body
  beBytes 2 e.sequence.toNat ++ beBytes 4 e.serial.toNat ++ beBytes 1 f.1 ++ beBytes 1 f.2.1
    ++ beBytes 1 f.2.2.1 ++ beBytes 4 f.2.2.2

end Sys2Proof.Machine
end

