-- ==== Sys2Proof/Machine/Uplink.lean ====
section
/-! DEFINITION. The Report Unit's UPLINK (R163 to R166, R184 to R189, R199) and the taking of a
request with the leaving of its reply (R168 to R171). -/

namespace Sys2Proof.Machine

/-! ## Status header (R185, R199) -/

def headerBit (n : Nat) (b : Bool) : Nat := if b then 2 ^ n else 0

/-- R199: the status header as a 32-bit value. -/
def statusHeader (s : State) : Nat :=
  pacingStateCode s.pacing.state * 2 ^ 29 + modeCode s.mgmt.mode * 2 ^ 28
    + headerBit 27 s.pacing.haltPending + headerBit 26 (attention s) + headerBit 25 (anyFault s)
    + headerBit 24 (isLatched .eventOverrun s) + s.report.queue.length * 2 ^ 18
    + headerBit 17 s.mgmt.droppedNotice + headerBit 16 s.port.clampNotice
    + headerBit 15 (decide (0 < s.demand.age)) + headerBit 14 s.check.running
    + groupStateCode (s.group 0).state * 2 ^ 11 + groupStateCode (s.group 1).state * 2 ^ 8

/-! ## Items (R187, R188) -/

/-- A slot operand, 0..7 for A1..A4 and B1..B4 (R198). -/
def slotOfOperand (n : Nat) : Seg × Fin 4 :=
  (if n < 4 then .a else .b, Fin.ofNat 4 n)

/-- R188: an ABSENT station carries ABSENT and zero values. -/
def stationMotionItem (x : StationRt) : List Byte :=
  if x.state = .absent then List.replicate 8 0
  else
    beInt 4 (x.speed.getD 0) ++ beInt 3 x.accel ++ beBytes 1 (stationStateCode x.state)

/-- R188, R199: source in bits 1–0, LIMITED in bit 6, SLEWED in bit 7. -/
def stationDriveItem (x : StationRt) (p : SetPoint) : List Byte :=
  if x.state = .absent then List.replicate 7 0
  else
    beInt 3 p.torque ++ beBytes 1 (sourceCode p.source + headerBit 6 p.limited + headerBit 7 p.slewed)
      ++ beInt 3 (x.torque.getD 0)

/-- R54: the greatest |I| in µm. -/
def maxIntegratorMicrons (x : GroupRt) : Nat := (roundDiv x.maxIntegrator 1000).toNat

/-- R199: bit 0 LIMITING, bit 1 BRAKE. -/
def statusOrCode (x : GroupRt) : Nat := headerBit 0 x.limiting + headerBit 1 x.brake

/-- R188: a group with no members carries OPEN and zero values. -/
def groupItem (r : GroupRec) (x : GroupRt) : List Byte :=
  if r.members = 0 then List.replicate 13 0
  else
    beBytes 1 (groupStateCode x.state) ++ beInt 4 (x.reference.getD 0) ++ beBytes 4 x.maxError
      ++ beBytes 3 (maxIntegratorMicrons x) ++ beBytes 1 (statusOrCode x)

/-- A MEASURE record as it is returned: speed, torque, status, serial. -/
def measureBytes (m : Measure) : List Byte :=
  beInt 4 m.cps ++ beInt 3 m.torque ++ [m.status] ++ beBytes 4 m.serial.toNat

/-- R188, R199. DEDUCED, log entry 27. -/
def slotItem (x : SlotRt) : List Byte :=
  match x.buffer with
  | none => beBytes 1 (slotClassCode x.lastClass) ++ List.replicate 12 0
  | some m => beBytes 1 (slotClassCode x.lastClass + 0x80) ++ measureBytes m

/-- R188 -/
def countersItem (s : State) : List Byte :=
  beBytes 2 s.port.linkErrors ++ beBytes 2 s.pacing.early ++ beBytes 2 s.pacing.missedTotal
    ++ beBytes 2 (s.seg .a).stray ++ beBytes 2 (s.seg .b).stray

/-- R102 -/
def checkItem (s : State) : List Byte :=
  if s.check.running then
    beBytes 1 4 ++ beBytes 1 (s.check.elapsed / s.check.step) ++ beBytes 4 s.check.peak
  else
    beBytes 1 (checkResultCode s.lastCheck.result)
      ++ beBytes 1 (s.lastCheck.cycles / s.lastCheck.step) ++ beBytes 4 s.lastCheck.peak

/-- R188: the values of an item. -/
def itemValues (s : State) (kind : ItemKind) (operand : Nat) : List Byte :=
  match kind with
  | .null => []
  | .stationMotion => stationMotionItem (s.station (Fin.ofNat 4 operand))
  | .stationDrive =>
    stationDriveItem (s.station (Fin.ofNat 4 operand)) (s.setpoints.get (Fin.ofNat 4 operand))
  | .group => groupItem (s.store.groups.get (Fin.ofNat 2 operand)) (s.group (Fin.ofNat 2 operand))
  | .slot => slotItem (s.slot (slotOfOperand operand).1 (slotOfOperand operand).2)
  | .counters => countersItem s
  | .check => checkItem s

/-- R187: the entry that fills a position: of those that match, the lowest-numbered. -/
def entryFor (store : Store) (index : BitVec 6) (position : Nat) : Option SchedEntry :=
  store.schedule.find? fun e =>
    e.enabled && decide (e.position = position) && decide (e.offset = index.toNat % e.repetition)

/-- R187: the kind and operand a position carries; where no entry matches NULL, with an operand byte that
the manual does not state. DESIGN CHOICE, a free value, log entry 34. -/
def itemAt (s : State) (position : Nat) : ItemKind × Nat :=
  match entryFor s.store s.pacing.index position with
  | some e => (e.kind, e.operand)
  | none => (.null, (Config.nullOperand position).toNat)

/-- R187: the items of a per-cycle UPLINK, in position order. -/
def cycleItems (s : State) : List (ItemKind × Nat) :=
  (List.range s.store.cell.reportWidth).map (itemAt s)

def itemBytes (s : State) (item : ItemKind × Nat) : List Byte :=
  beBytes 1 (itemKindCode item.1) ++ beBytes 1 item.2 ++ itemValues s item.1 item.2

/-! ## Assembly and sending (R163) -/

/-- R199: the reply part. -/
def replyBytes (r : Reply) : List Byte :=
  [r.tag, r.code] ++ beBytes 1 (resultCode r.answer.result) ++ beBytes 1 r.answer.detail
    ++ beBytes 4 r.serial.toNat ++ r.answer.data

/-- R163, R199: the payload of an UPLINK with these items. -/
def uplinkPayload (s : State) (items : List (ItemKind × Nat)) : List Byte :=
  beBytes 4 (statusHeader s) ++ beBytes 1 s.pacing.index.toNat ++ beBytes 4 s.pacing.serial.toNat
    ++ beBytes 1 items.length ++ (items.map (itemBytes s)).flatten
    ++ (match s.mgmt.holder with
        | some r => replyBytes r
        | none => [])

/-- R195: the UPLINK frame. -/
def uplinkFrame (s : State) (items : List (ItemKind × Nat)) : List Byte :=
  cellFrame 0x81 (uplinkPayload s items)

/-- R189: the buffer of each slot a SLOT item names is emptied. -/
def emptyReported (items : List (ItemKind × Nat)) (s : State) : State :=
  items.foldl (fun s item =>
    if item.1 = .slot then
      let gk := slotOfOperand item.2
      s.setSlot gk.1 gk.2 { s.slot gk.1 gk.2 with buffer := none }
    else s) s

/-- R163, R185: the reply holder emptied, the dropped notice and the clamp notice cleared, the frame
on the line. -/
def sendUplink (items : List (ItemKind × Nat)) (s : State) : State :=
  (s.setPort { s.port with
      clampNotice := false, tx := { sending := true, frame := uplinkFrame s items, since := s.now } }
    ).setMgmt { s.mgmt with holder := none, droppedNotice := false }

/-- R164, R166: the UPLINK at the end of a computation. -/
def perCycleUplink (s : State) : State :=
  if s.port.tx.sending then
    s.setPort { s.port with uplinkSkips := bump 65535 s.port.uplinkSkips }
  else
    emptyReported (cycleItems s) (sendUplink (cycleItems s) s)

/-- R165: the pacing states in which a reply is owed at once. -/
def beforeCycles (s : State) : Bool :=
  decide (s.pacing.state = .listen) || decide (s.pacing.state = .acquire)
    || decide (s.pacing.state = .confirm)

/-- R165: the immediate UPLINK, with no items. -/
def immediateUplink (s : State) : State :=
  let s := sendUplink [] s
  s.setPort { s.port with replyOwed := false }

/-- R165: when a reply is owed at once and the transmitter is IDLE. -/
def sendOwed (s : State) : State :=
  if s.port.replyOwed then
    if beforeCycles s then immediateUplink s
    else s.setPort { s.port with replyOwed := false }
  else s

/-! ## Taking a request (R169 to R171) -/

/-- What a request does: the state it leaves and the answer it gets. -/
abbrev Request := State → State × Answer

def doneWith (detail : Nat) (data : List Byte) : Answer :=
  { result := .done, detail := detail, data := data }

def refusedWith (result : ResultCode) (detail : Nat) : Answer :=
  { result := result, detail := detail, data := [] }

/-- R171: argument bytes that do not fit the request code. -/
def badFit : Answer := refusedWith .badArgument 255

/-- R169: a REQUEST that arrives while the holder is full. -/
def dropRequest (s : State) : State :=
  s.setMgmt { s.mgmt with dropped := bump 65535 s.mgmt.dropped, droppedNotice := true }

/-- R165, R169: the reply placed in the holder, and sent at once where it is owed at once and the
transmitter is IDLE. -/
def placeReply (r : Reply) (s : State) : State :=
  let s := s.setMgmt { s.mgmt with holder := some r }
  if beforeCycles s then
    let s := s.setPort { s.port with replyOwed := true }
    if s.port.tx.sending then s else immediateUplink s
  else s

/-- R168: the reply carries the serial of the last cycle-begin at the request's taking. -/
def takeRequest (code tag : Byte) (body : Request) (s : State) : State :=
  if s.mgmt.holder.isSome then dropRequest s
  else
    let out := body s
    placeReply { tag := tag, code := code, answer := out.2, serial := s.pacing.serial } out.1

/-- R171: UNKNOWN changes no state. -/
def unknownRequest : Request := fun s => (s, refusedWith .unknown 0)

/-- A request without arguments (R198): bytes that do not fit are refused (R171). -/
def noArgs (body : Request) (args : List Byte) : Request := fun s =>
  if args.isEmpty then body s else (s, badFit)

/-- A set of flags as the mask of three bytes (R198). -/
def maskBytes (m : BitVec 18) : List Byte := beBytes 3 m.toNat

end Sys2Proof.Machine
end

