-- ==== Sys2Proof/Machine/Engine.lean ====
section
/-! DEFINITION. The probe stage (R92 to R97), set-point assembly (R70 to R83) and the computation
point as a whole (R106, R164), with its command. -/

namespace Sys2Proof.Machine

/-! ## The probe stage -/

/-- R93: the reason of a group that is no longer LOCKED. OPEN: DESIGN CHOICE, log entry 25. -/
def abortReasonOf : GroupState → CheckReason
  | .capturing => .capturing
  | .slipping => .slipping
  | .broken => .broken
  | .opened => .none
  | .locked => .none

/-- R94 -/
def updatePeak (s : State) : State :=
  s.setCheck { s.check with peak := max s.check.peak (s.group s.check.group).maxError }

/-- R95: the judgement of a complete check. -/
def judgeCheck (s : State) : State :=
  if s.check.peak ≤ s.check.band then endCheck .pass .completed .pass s
  else endCheck .fail .completed .fail (latch .checkFailed s)

/-- R96: the probe force of the probed station. -/
def probeOffset (c : CheckContext) : Int :=
  if c.pattern.getLsbD (c.elapsed / c.step) then c.offset else 0

/-- No probe force at any station. -/
def noProbe : Four Int := zeros

/-- R92 to R96: the state the stage leaves and the probe force of each station. -/
def probeStage (s : State) : State × Four Int :=
  if s.check.running then
    if (s.group s.check.group).state = .locked then
      let s := updatePeak s
      if s.check.elapsed = s.check.length * s.check.step then (judgeCheck s, noProbe)
      else
        (s.setCheck { s.check with elapsed := s.check.elapsed + 1 },
          noProbe.set s.check.station (probeOffset s.check))
    else
      let reason := abortReasonOf (s.group s.check.group).state
      (endCheck .aborted reason (.aborted reason) s, noProbe)
  else (s, noProbe)

/-! ## Assembly -/

/-- R72: the cases that force SAFE. -/
def forcedSafe (s : State) (i : Fin 4) : Bool :=
  decide (s.mgmt.mode = .config) || decide (s.pacing.state = .halted)
    || !(liveOrStale (s.station i)) || decide (stationSegState s i ≠ some .up)

/-- R72 -/
def sourceOf (s : State) (i : Fin 4) : Source :=
  if forcedSafe s i then .safe else if (s.direct i).active then .direct else .computed

/-- R74: the correction force the lock stage leaves a station. -/
def lockForce (s : State) (i : Fin 4) : Int :=
  match groupOf s.store i with
  | some g => (s.group g).force.get i
  | none => 0

/-- R74: F_sum. -/
def forceSum (s : State) (forces : Four (Int × Int)) (probe : Four Int) (i : Fin 4) : Int :=
  (forces.get i).1 + (forces.get i).2 + lockForce s i + probe.get i

/-- R74: a force as a torque at the roller's radius. -/
def forceToTorque (force : Int) (radius : Nat) : Int := roundDiv (force * radius) 100000

/-- R76, R77: the result of the slew stage and whether SLEWED is set. -/
def slewed (slew : Nat) (memory clamped : Int) : Int × Bool :=
  if (clamped - memory).natAbs ≤ slew then (clamped, false)
  else if memory < clamped then (memory + slew, true)
  else (memory - slew, true)

/-- R76 to R78: the set-point of a DIRECT or COMPUTED target. -/
def drivenSetPoint (limit slew : Nat) (memory target : Int) (source : Source)
    (serial : BitVec 32) : SetPoint :=
  let clamped := clampAbs limit target
  let out := slewed slew memory clamped
  { torque := out.1, source := source, limited := decide (clamped ≠ target), slewed := out.2,
    serial := serial }

/-- R74, R75: the target of a source. -/
def targetOf (s : State) (forces : Four (Int × Int)) (probe : Four Int) (i : Fin 4) : Source → Int
  | .safe => 0
  | .direct => (s.direct i).torque
  | .computed =>
    forceToTorque (forceSum s forces probe i) (s.store.stations.get i).radius

/-- R71 to R78: a station's new set-point. -/
def setPointOf (s : State) (forces : Four (Int × Int)) (probe : Four Int) (i : Fin 4) : SetPoint :=
  match sourceOf s i with
  | .safe => SetPoint.safe s.pacing.serial
  | .direct =>
    drivenSetPoint (s.station i).torqueLimit (s.store.stations.get i).slew (s.station i).slewMemory
      (targetOf s forces probe i .direct) .direct s.pacing.serial
  | .computed =>
    drivenSetPoint (s.station i).torqueLimit (s.store.stations.get i).slew (s.station i).slewMemory
      (targetOf s forces probe i .computed) .computed s.pacing.serial

/-- R83: a DIRECT that has given a set-point counts down, and expires at 0. -/
def countDirect (s : State) (i : Fin 4) : State :=
  if ((s.setpoints.get i).source = .direct) ∧ (s.direct i).active then
    let s := s.setDirect i { s.direct i with remaining := (s.direct i).remaining - 1 }
    if (s.direct i).remaining = 0 then endDirect .expired i s else s
  else s

/-- R71, R73, R78: the four entries together, and each as its station's slew memory. -/
def storeSetPoints (points : Four SetPoint) (s : State) : State :=
  (s.setSetpoints points).setStations
    (Four.tabulate fun i => { s.station i with slewMemory := (points.get i).torque })

/-- R71 to R83 -/
def assembly (forces : Four (Int × Int)) (probe : Four Int) (s : State) : State :=
  four.foldl countDirect (storeSetPoints (Four.tabulate (setPointOf s forces probe)) s)

/-! ## The computation point (R106) -/

/-- R24 to R28: the demand stage, with the reference change it hands on. -/
def demandStage (s : State) : State × Bool :=
  let s := demandIntake s
  (keepMode s, referenceChange s.demand)

/-- Intake, rings and references. DEDUCED, log entry 9: group 0 before group 1. -/
def measureStages (s : State) : State :=
  let out := demandStage s
  let s := motionStage (stationIntake out.1)
  referenceStage out.2 1 (referenceStage out.2 0 s)

/-- Forces, lock, probe and assembly. -/
def driveStages (s : State) : State :=
  let forces := Four.tabulate (gatedForces s)
  let s := lockStage 1 (lockStage 0 s)
  let out := probeStage s
  assembly forces out.2 out.1

/-- R106, R164: the computation, then the cycle's UPLINK. -/
def computePoint (s : State) : State :=
  perCycleUplink (driveStages (measureStages (s.setPacing { s.pacing with cpDue := none })))

/-- R106, where its moment has come. DESIGN CHOICE, log entry 12. -/
def computationFalls (s : State) : State :=
  match s.pacing.cpDue with
  | some due => if due ≤ s.now then computePoint s else s
  | none => s

/-- COMPUTATION_POINT -/
def execComputationPoint (t : Nat) (s : State) : Host.Outcome State Fault Refusal :=
  .next (computationFalls (advance t s))

end Sys2Proof.Machine
end

