-- ==== Sys2Proof/Decode.lean ====
section
/-! DEFINITION. Reading commands. The opcode table gives no row any bits, so no word spells a command;
what spells one is a frame of the cell link (R195, R198), read and written here. -/

namespace Sys2Proof

/-- No row of spec/opcode_table.json has bits, so no word spells a command.
DEDUCED, log entry 31. -/
def decodeTableWord (_nbits _w : Nat) : Option Instr := none

/-- What the link check makes of an arrived frame (R157). -/
inductive Frame where
  | start (index : BitVec 6)
  | demand (mode : DriveMode) (speed : Int) (mass : Nat)
  | request (code tag : Byte) (args : List Byte)
  /-- A frame that fails the CRC, kind, length or content check. -/
  | bad
  deriving DecidableEq, Repr

/-- R195: the payload of a DEMAND; an unknown mode code fails the content check. -/
def demandFrame (payload : List Byte) : Frame :=
  match Machine.splitFields [1, 4, 2] payload with
  | some [0, speed, mass] => .demand .coast (Machine.signedField 4 speed) mass
  | some [1, speed, mass] => .demand .road (Machine.signedField 4 speed) mass
  | some [2, speed, mass] => .demand .speed (Machine.signedField 4 speed) mass
  | _ => .bad

/-- R157, checks 2 to 4: the frame of a kind with a payload. -/
def payloadFrame (kind : Byte) (payload : List Byte) : Frame :=
  if kind = 0x01 then
    match payload with
    | [i] => if i.toNat ≤ 63 then .start (BitVec.ofNat 6 i.toNat) else .bad
    | _ => .bad
  else if kind = 0x02 then demandFrame payload
  else if kind = 0x03 then
    match payload with
    | code :: tag :: args => .request code tag args
    | _ => .bad
  else .bad

/-- R157: the frame in the bytes that follow the start delimiter, through the last CRC byte. -/
def judge (burst : List Byte) : Frame :=
  let body := burst.take (burst.length - 2)
  let crc := burst.drop (burst.length - 2)
  if Machine.beNat crc ≠ (Machine.crc16 body).toNat then .bad
  else
    match body with
    | kind :: _ :: payload => payloadFrame kind payload
    | _ => .bad

/-- R198: the command of a REQUEST's code. -/
def requestCommand (t : Nat) (code tag : Byte) (args : List Byte) : Instr :=
  match code.toNat with
  | 0x01 => .loadCell t tag args
  | 0x02 => .loadRoadload t tag args
  | 0x03 => .loadStation t tag args
  | 0x04 => .loadGroup t tag args
  | 0x05 => .loadSlot t tag args
  | 0x06 => .loadSchedule t tag args
  | 0x10 => .readTable t tag args
  | 0x11 => .readRuntime t tag args
  | 0x12 => .readEvents t tag args
  | 0x13 => .readCheck t tag args
  | 0x20 => .enterOperate t tag args
  | 0x21 => .enterConfig t tag args
  | 0x22 => .restart t tag args
  | 0x30 => .halt t tag args
  | 0x31 => .stop t tag args
  | 0x40 => .engage t tag args
  | 0x41 => .release t tag args
  | 0x50 => .startCheck t tag args
  | 0x51 => .abortCheck t tag args
  | 0x60 => .directTorque t tag args
  | 0x70 => .clearFaults t tag args
  | _ => .unknown t code tag args

/-- The command that a frame arriving at `t` is. -/
def Frame.command (t : Nat) : Frame → Instr
  | .start index => .start t index
  | .demand mode speed mass => .demand t mode speed mass
  | .request code tag args => requestCommand t code tag args
  | .bad => .linkCheckDiscard t

/-- R195: the kind and the payload by which a command arrives on the cell link, for those that do. -/
def framePayload (i : Instr) : Option (Byte × List Byte) :=
  match i with
  | .start _ index => some (0x01, [BitVec.ofNat 8 index.toNat])
  | .demand _ mode speed mass =>
    some (0x02, Machine.beBytes 1 (Machine.driveModeCode mode) ++ Machine.beInt 4 speed
      ++ Machine.beBytes 2 mass)
  | _ => i.request?.map fun (code, tag, args) => (0x03, code :: tag :: args)

/-- The bytes after the start delimiter by which a command arrives on the cell link. -/
def frameBytes (i : Instr) : Option (List Byte) :=
  (framePayload i).map fun (kind, payload) => Machine.frameBody kind payload

end Sys2Proof
end

