-- ==== Sys2Proof/Machine/Segments.lean ====
section
/-! DEFINITION. The Segment Controllers (chapter 7): SYNC frames, windows, classification, the boot,
jams, what a cycle-begin and an entry to HALTED do to a segment, and the commands of the segments. -/

namespace Sys2Proof.Machine

/-! ## Changes of state (R151) -/

/-- R151: the segment's new state and reason, with its SEGMENT event. -/
def segChange (g : Seg) (state : SegState) (reason : SegReason) (s : State) : State :=
  writeEvent (.segment g reason) (s.setSeg g { s.seg g with state := state, reason := reason })

def noWindow (x : SlotRt) : SlotRt := { x with window := none }

/-- The slots of a segment with every window closed without classification. -/
def dropWindows (x : Four SlotRt) : Four SlotRt := Four.tabulate fun k => noWindow (x.get k)

/-- R127: an entry to DOWN sets the boot cycle count and the withheld count to 0. -/
def goDown (x : Segment) : Segment :=
  { x with bootCount := 0, withheld := 0, pendingSync := none, slots := dropWindows x.slots,
           replySlot := none }

/-! ## Init data (R141 to R145) -/

/-- R142: the init values of the bound stations cleared, the limits derived again. -/
def clearBound (g : Seg) (s : State) : State :=
  (boundStations s.store g).foldl (fun s i => setInit i InitValues.clear s) s

/-- R141: the fallback values of a station record. -/
def fallbackInit (rec : StationRec) : InitValues :=
  if rec.present then
    { identity := none, counts := some rec.fallbackCounts, ratedTorque := some rec.fallbackTorque,
      ratedSpeed := some rec.fallbackSpeed, mark := .none }
  else InitValues.clear

/-- R141 -/
def installFallback (g : Seg) (s : State) : State :=
  (boundStations s.store g).foldl (fun s i => setInit i (fallbackInit (s.store.stations.get i)) s) s

/-- R143: one page's value, checked against its range; BAD_INIT when it is out of range. -/
def storePage (page : Nat) (data : List Byte) (v : InitValues) : InitValues :=
  let n := beNat data
  match page with
  | 0 => { v with identity := some { typeCode := beNat (data.take 2), firmware := beNat (data.drop 2) } }
  | 1 => if inRange 1 1048576 n then { v with counts := some n } else { v with mark := .badInit }
  | 2 => if inRange 1 300000 n then { v with ratedTorque := some n } else { v with mark := .badInit }
  | 3 => if inRange 1 20000 n then { v with ratedSpeed := some n } else { v with mark := .badInit }
  | _ => v

/-- R143: a station has completed its boot. -/
def bootDone (v : InitValues) : Bool := v.identity.isSome && validInit v

/-- R145: NO_INIT for a station that has not completed and is not marked. -/
def markNoInit (v : InitValues) : InitValues :=
  if bootDone v then v else if v.mark = .badInit then v else { v with mark := .noInit }

/-- R145: the end of a boot at count 64. -/
def endBoot (g : Seg) (s : State) : State :=
  let some_ := (boundStations s.store g).any fun i => bootDone (s.station i).init
  let s := (boundStations s.store g).foldl (fun s i => setInit i (markNoInit (s.station i).init) s) s
  if some_ then segChange g .up .bootPartial s
  else latch (.segSilent g) (segChange g .down .bootFailed (s.setSeg g (goDown (s.seg g))))

/-- R144: the evaluation of the boot. -/
def evalBoot (g : Seg) (s : State) : State :=
  if (boundStations s.store g).all fun i => bootDone (s.station i).init then
    segChange g .up .bootComplete s
  else
    let s := s.setSeg g { s.seg g with bootCount := (s.seg g).bootCount + 1 }
    if 64 ≤ (s.seg g).bootCount then endBoot g s else s

/-! ## Windows and classification (R134 to R138) -/

/-- The character at an offset of a reply (R197). -/
def charAt (chars : List Byte) (n : Nat) : Option Byte := chars[n]?

/-- R196: a reply's form: delimiter, CRC-8, and a byte count that fits its kind. -/
def replyFormGood (chars : List Byte) : Bool :=
  decide (chars.head? = some 0x5A)
    && decide (chars.getLast? = some (crc8 chars.dropLast))
    && (match charAt chars 2 with
        | some 0x01 => decide (chars.length = 12)
        | some 0x02 => decide (chars.length = 9)
        | _ => false)

/-- R136, check 4: INIT with the page requested in BOOT, MEASURE in UP. -/
def kindGood (state : SegState) (page : Nat) (chars : List Byte) : Bool :=
  match state with
  | .boot => decide (charAt chars 2 = some 0x02) && decide (charAt chars 3 = some (BitVec.ofNat 8 page))
  | _ => decide (charAt chars 2 = some 0x01)

/-- R136: the class of a window's candidate. -/
def classify (state : SegState) (address page : Nat) (candidate : Candidate) : SlotClass :=
  match candidate with
  | .none => .none
  | .arriving _ => .overrun
  | .complete chars =>
    if !replyFormGood chars then .check
    else if charAt chars 1 ≠ some (BitVec.ofNat 8 address) then .address
    else if !kindGood state page chars then .kind
    else .good

/-- R137, R197: the record of a GOOD MEASURE. -/
def measureOf (chars : List Byte) (serial : BitVec 32) : Measure :=
  { cps := signedField 4 (beNat ((chars.drop 3).take 4)),
    torque := signedField 3 (beNat ((chars.drop 7).take 3)),
    status := (charAt chars 10).getD 0, serial := serial }

/-- R138: the classes that are errors of the slot. -/
def isSlotError : SlotClass → Bool
  | .overrun | .check | .address | .kind => true
  | .none | .good => false

/-- R138: the last class, the error count and SLOT_ERROR. -/
def recordClass (g : Seg) (k : Fin 4) (c : SlotClass) (s : State) : State :=
  let x := s.slot g k
  if isSlotError c then
    latch (.slotError g) (s.setSlot g k { x with lastClass := c, errors := bump 255 x.errors })
  else s.setSlot g k { x with lastClass := c }

/-- R137: a GOOD reply handed on: a MEASURE into the buffer in UP, a page to the boot in BOOT. -/
def handOn (g : Seg) (k : Fin 4) (w : Window) (chars : List Byte) (s : State) : State :=
  match (s.seg g).state with
  | .boot =>
    let i := (s.slotRec g k).station
    setInit i (storePage w.page ((chars.drop 4).take 4) (s.station i).init) s
  | _ => s.setSlot g k { s.slot g k with buffer := some (measureOf chars w.serial) }

/-- R136: the remainder of a candidate that is still arriving is discarded. -/
def dropRemainder (g : Seg) (k : Fin 4) (s : State) : State :=
  if (s.seg g).replySlot = some k then s.setSeg g { s.seg g with replySlot := none } else s

/-- R136, R137: closes a window and classifies its candidate. -/
def closeWindow (g : Seg) (k : Fin 4) (s : State) : State :=
  match (s.slot g k).window with
  | none => s
  | some w =>
    let c := classify (s.seg g).state (s.slotRec g k).address w.page w.candidate
    let s := dropRemainder g k (recordClass g k c (s.setSlot g k (noWindow (s.slot g k))))
    match c, w.candidate with
    | .good, .complete chars => handOn g k w chars s
    | _, _ => s

def anyWindow (x : Segment) : Bool := four.any fun k => (x.slots.get k).window.isSome

/-- R196: 4 µs have passed since the last character a drive sent. -/
def lineRested (now : Nat) (x : Segment) : Bool :=
  match x.lastEnd with
  | some t => decide (t + us 4 ≤ now)
  | none => true

/-- R131, R150, R196: the line is idle. DEDUCED, log entry 35. -/
def lineIdle (now : Nat) (x : Segment) : Bool := !x.lineBusy && lineRested now x

/-- R134: the window of an enabled slot for a SYNC due at `due`. DEDUCED, log entry 26. -/
def newWindow (r : SlotRec) (p : PendingSync) (page : Nat) : Window :=
  { opens := p.due + us r.earliest, closes := p.due + us r.close, serial := p.serial, page := page,
    isOpen := false, candidate := .none }

/-- R131: sending the SYNC sets up the windows of the enabled slots. -/
def setWindows (recs : Four SlotRec) (p : PendingSync) (page : Nat) (x : Four SlotRt) : Four SlotRt :=
  Four.tabulate fun k =>
    if (recs.get k).enabled then { x.get k with window := some (newWindow (recs.get k) p page) }
    else noWindow (x.get k)

/-- R134: a window whose opening has come is open. -/
def openIfDue (now : Nat) (x : SlotRt) : SlotRt :=
  match x.window with
  | some w => if w.opens ≤ now then { x with window := some { w with isOpen := true } } else x
  | none => x

/-! ## SYNC (R84, R131, R132, R196) -/

/-- R84: whether an entry formed from a set-point is SAFE. -/
def entrySafe (s : State) (p : SetPoint) : Bool :=
  decide (s.mgmt.mode = .config) || decide (s.pacing.state = .halted) || decide (p.source = .safe)

/-- R84: the torque in the drive's own direction. -/
def driveTorque (d : Direction) (torque : Int) : Int :=
  match d with
  | .plus => torque
  | .minus => -torque

/-- R84, R196: the four bytes of a slot's entry. -/
def syncEntry (s : State) (g : Seg) (k : Fin 4) : List Byte :=
  let r := s.slotRec g k
  let p := s.setpoints.get r.station
  if entrySafe s p then beBytes 1 (r.address * 16) ++ beInt 3 0
  else
    beBytes 1 (r.address * 16 + sourceCode p.source)
      ++ beInt 3 (driveTorque (s.store.stations.get r.station).direction p.torque)

/-- R196: a SYNC frame with its CRC-8. -/
def syncFrame (kind : Byte) (index : BitVec 6) (page : Nat) (entries : List (List Byte)) :
    List Byte :=
  let body := [0xA5, kind] ++ beBytes 1 index.toNat ++ beBytes 1 page ++ beBytes 1 entries.length
    ++ entries.flatten
  body ++ [crc8 body]

/-- R84: SAFE when every entry is SAFE, RUN otherwise. -/
def syncKind (s : State) (g : Seg) : Byte :=
  if (enabledSlots s.store g).all fun k => entrySafe s (s.setpoints.get (s.slotRec g k).station)
  then 0x02 else 0x01

/-- R131: the frame the segment sends by its state. -/
def syncFrameOf (s : State) (g : Seg) (p : PendingSync) : List Byte :=
  match (s.seg g).state with
  | .boot => syncFrame 0x03 p.index ((s.seg g).bootCount % 4) []
  | _ => syncFrame (syncKind s g) p.index 0 ((enabledSlots s.store g).map (syncEntry s g))

/-- R84: the slew memory of a station whose entry mode or pacing makes SAFE is set to 0. -/
def clearSlew (g : Seg) (s : State) : State :=
  (enabledSlots s.store g).foldl (fun s k =>
    let i := (s.slotRec g k).station
    if entrySafe s (s.setpoints.get i) && decide ((s.setpoints.get i).source ≠ .safe) then
      s.setStation i { s.station i with slewMemory := 0 }
    else s) s

/-- R131: the SYNC is sent; it occupies the line for 2 µs a character (R196). -/
def sendSync (g : Seg) (p : PendingSync) (s : State) : State :=
  let frame := syncFrameOf s g p
  let page := (s.seg g).bootCount % 4
  let s := if (s.seg g).state = .up then clearSlew g s else s
  let x := s.seg g
  s.setSeg g { x with
    withheld := 0, sync := some { frame := frame, ends := p.due + us (2 * frame.length) },
    slots := setWindows (s.store.slots.get g.num) p page x.slots }

/-- R148 -/
def jam (g : Seg) (s : State) : State :=
  latch (.segJammed g) (segChange g .jammed .jammed s)

/-- R132: the enabled slots take NONE. -/
def noneClasses (recs : Four SlotRec) (x : Four SlotRt) : Four SlotRt :=
  Four.tabulate fun k =>
    if (recs.get k).enabled then { x.get k with lastClass := .none } else x.get k

/-- R132, R146: the SYNC is withheld. -/
def withholdSync (g : Seg) (s : State) : State :=
  let x := s.seg g
  let s := s.setSeg g { x with
    withheld := x.withheld + 1, slots := noneClasses (s.store.slots.get g.num) x.slots }
  if s.store.cell.jamLimit ≤ (s.seg g).withheld then jam g s
  else if (s.seg g).state = .boot then evalBoot g s
  else s

/-- R131: a SYNC that has fallen due. DESIGN CHOICE, log entry 12; also while the part's own earlier SYNC is
still on the line, log entry 37. -/
def syncFallsDue (g : Seg) (s : State) : State :=
  match (s.seg g).pendingSync with
  | none => s
  | some p =>
    if s.now < p.due then s
    else
      let s := s.setSeg g { s.seg g with pendingSync := none }
      if (s.seg g).state = .boot ∨ (s.seg g).state = .up then
        if lineIdle s.now (s.seg g) then sendSync g p s else withholdSync g s
      else s

/-! ## The cycle-begin at a segment (R130, R133, R140 to R142) -/

/-- R133: a window still open is classified; one that had not opened takes NONE. -/
def closeEarly (g : Seg) (k : Fin 4) (s : State) : State :=
  match (s.slot g k).window with
  | none => s
  | some w =>
    if w.isOpen || decide (w.opens ≤ s.now) then closeWindow g k s
    else s.setSlot g k { s.slot g k with window := none, lastClass := .none }

/-- R133 -/
def closeEarlierCycle (g : Seg) (s : State) : State :=
  let had := anyWindow (s.seg g)
  let s := s.setSeg g { s.seg g with pendingSync := none }
  let s := four.foldl (fun s k => closeEarly g k s) s
  if had && decide ((s.seg g).state = .boot) then evalBoot g s else s

/-- R140 -/
def mayLeaveDown (g : Seg) (s : State) : Bool :=
  decide ((s.seg g).state = .down)
    && (decide (s.pacing.state = .tracking) || decide (s.pacing.state = .freewheel))
    && !(enabledSlots s.store g).isEmpty && !(isLatched (.segSilent g) s)

/-- R141, R142 -/
def leaveDown (g : Seg) (s : State) : State :=
  if mayLeaveDown g s then
    if s.store.cell.bootSkip.get g.num then segChange g .up .bootSkipped (installFallback g s)
    else
      segChange g .boot .bootStarted
        (clearBound g (s.setSeg g { s.seg g with bootCount := 0 }))
  else s

/-- R130, step 3. -/
def scheduleSync (g : Seg) (s : State) : State :=
  let x := s.seg g
  let p : PendingSync :=
    { due := s.pacing.anchor.getD s.now + us (s.store.cell.delay.get g.num),
      index := s.pacing.index, serial := s.pacing.serial }
  if x.state = .boot ∨ x.state = .up then s.setSeg g { x with pendingSync := some p } else s

/-- R130 -/
def segCycleBegin (g : Seg) (s : State) : State :=
  scheduleSync g (leaveDown g (closeEarlierCycle g s))

/-- R146: the entry to DOWN with reason HALT. -/
def haltDown (g : Seg) (s : State) : State :=
  segChange g .down .halt (s.setSeg g (goDown (s.seg g)))

/-- R146: an entry to HALTED takes a segment in BOOT to DOWN. -/
def segHalt (g : Seg) (s : State) : State :=
  if (s.seg g).state = .boot then haltDown g s else s

/-- R130: the entry to HALTED after the controller's own steps: a segment that was in BOOT at the
cycle-begin ends it in DOWN, also where the steps have just completed its boot. DEDUCED, log entry 28. -/
def haltAfterSteps (g : Seg) (s : State) : State :=
  if (s.seg g).state = .down then s else haltDown g s

/-- R130: one controller's part of an event that is a cycle-begin, an entry to HALTED, or both; the
order of the two is the part's choice. Log entries 3 and 28. -/
def segEvent (halted cycle : Bool) (s : State) (g : Seg) : State :=
  if halted && cycle && decide ((s.seg g).state = .boot) then
    let first := Config.haltEntryFirst s.free
    let s := s.setFree (s.free + 1)
    if first then segCycleBegin g (segHalt g s) else haltAfterSteps g (segCycleBegin g s)
  else
    let s := if halted then segHalt g s else s
    if cycle then segCycleBegin g s else s

/-- Whether such an event may change the segment's state. -/
def segMayChange (halted cycle : Bool) (s : State) (g : Seg) : Bool :=
  match (s.seg g).state with
  | .boot => halted || (cycle && anyWindow (s.seg g))
  | .down => cycle && mayLeaveDown g s
  | .up | .jammed => false

/-- R151: both controllers; where both segments may change, which acts first is the part's choice.
Log entry 3. -/
def bothSegments (halted cycle : Bool) (s : State) : State :=
  if segMayChange halted cycle s .a && segMayChange halted cycle s .b then
    let bFirst := Config.segmentBFirst s.free
    let s := s.setFree (s.free + 1)
    if bFirst then segEvent halted cycle (segEvent halted cycle s .b) .a
    else segEvent halted cycle (segEvent halted cycle s .a) .b
  else segEvent halted cycle (segEvent halted cycle s .a) .b

/-! ## Replies (R134, R135) -/

/-- The characters of a candidate that have arrived. -/
def Candidate.chars : Candidate → List Byte
  | .none => []
  | .arriving before => before
  | .complete chars => chars

/-- R135: the open window of the lowest slot number. DEDUCED, log entry 21. -/
def openSlot (now : Nat) (x : Segment) : Option (Fin 4) :=
  four.find? fun k =>
    match (x.slots.get k).window with
    | some w => w.isOpen && decide (now < w.closes)
    | none => false

/-- R135: STRAY. -/
def strayReply (g : Seg) (s : State) : State :=
  let x := s.seg g
  s.setSeg g { x with stray := bump 65535 x.stray, lineBusy := true, replySlot := none }

/-- R135: the reply becomes the candidate of slot `k`'s window. -/
def becomeCandidate (g : Seg) (k : Fin 4) (w : Window) (s : State) : State :=
  let x := s.seg g
  s.setSeg g { x with
    lineBusy := true, replySlot := some k,
    slots :=
      x.slots.set k { x.slots.get k with window := some { w with candidate := .arriving [] } } }

/-- The part is still sending its SYNC (R134). -/
def sendingSync (now : Nat) (x : Segment) : Bool :=
  match x.sync with
  | some y => decide (now < y.ends)
  | none => false

/-- R196: the candidate a reply was, arriving again. -/
def resumeCandidate (x : SlotRt) : SlotRt :=
  match x.window with
  | some w => { x with window := some { w with candidate := .arriving w.candidate.chars } }
  | none => x

/-- R196: a character within 4 µs of the last goes on with the same reply: it starts none.
DEDUCED, log entry 35. -/
def resumeReply (x : Segment) : Segment :=
  match x.replySlot with
  | some k => { x with lineBusy := true, slots := x.slots.set k (resumeCandidate (x.slots.get k)) }
  | none => { x with lineBusy := true }

/-- R135: a drive begins to transmit. DEDUCED, log entries 14, 21 and 35. -/
def replyStarts (g : Seg) (s : State) : State :=
  let x := s.seg g
  if x.lineBusy then s
  else if !lineRested s.now x then s.setSeg g (resumeReply x)
  else if sendingSync s.now x then s.setSeg g { x with lineBusy := true, replySlot := none }
  else
    let x := { x with slots := Four.tabulate fun k => openIfDue s.now (x.slots.get k) }
    let s := s.setSeg g x
    match openSlot s.now x with
    | none => strayReply g s
    | some k =>
      match (x.slots.get k).window with
      | some w =>
        match w.candidate with
        | .none => becomeCandidate g k w s
        | .arriving _ | .complete _ => strayReply g s
      | none => strayReply g s

/-- R134, R196: the candidate that was arriving is complete, with the characters before a short pause. -/
def completeCandidate (chars : List Byte) (x : SlotRt) : SlotRt :=
  match x.window with
  | some w => { x with window := some { w with candidate := .complete (w.candidate.chars ++ chars) } }
  | none => x

/-- R134: the last byte is received; the line is idle from 4 µs later on (R196).
DEDUCED, log entries 14 and 35. -/
def replyEnds (g : Seg) (chars : List Byte) (s : State) : State :=
  let x := s.seg g
  if x.lineBusy then
    let x := { x with lineBusy := false, lastEnd := some s.now }
    match x.replySlot with
    | some k =>
      s.setSeg g { x with slots := x.slots.set k (completeCandidate chars (x.slots.get k)) }
    | none => s.setSeg g x
  else s

/-- R134: the opening of a slot's window. DESIGN CHOICE, log entry 12. -/
def windowOpens (g : Seg) (k : Fin 4) (s : State) : State :=
  s.setSlot g k (openIfDue s.now (s.slot g k))

/-- R136, R144: the close of a slot's window, and the boot's evaluation at the last of the cycle.
DESIGN CHOICE, log entry 12. -/
def windowCloses (g : Seg) (k : Fin 4) (s : State) : State :=
  match (s.slot g k).window with
  | none => s
  | some w =>
    if s.now < w.closes then s
    else
      let s := closeWindow g k s
      if decide ((s.seg g).state = .boot) && !(anyWindow (s.seg g)) then evalBoot g s else s

/-! ## RESTART and CLEAR_FAULTS at a segment -/

/-- R153 -/
def restartSegment (x : Segment) : Segment :=
  { goDown x with
    state := .down, reason := .none,
    slots := Four.tabulate fun k =>
      { x.slots.get k with lastClass := .none, buffer := none, window := none } }

/-- R150: the idle test of a JAMMED segment. DEDUCED, log entry 35. -/
def clearJam (g : Seg) (s : State) : State :=
  if (s.seg g).state = .jammed then
    if lineIdle s.now (s.seg g) then
      segChange g .down .jamCleared (s.setSeg g (goDown (s.seg g)))
    else s
  else s

/-! ## The commands -/

/-- SYNC_DUE -/
def execSyncDue (t : Nat) (g : Seg) (s : State) : Host.Outcome State Fault Refusal :=
  .next (syncFallsDue g (advance t s))

/-- WINDOW_OPEN -/
def execWindowOpen (t : Nat) (g : Seg) (k : Fin 4) (s : State) : Host.Outcome State Fault Refusal :=
  .next (windowOpens g k (advance t s))

/-- WINDOW_CLOSE -/
def execWindowClose (t : Nat) (g : Seg) (k : Fin 4) (s : State) :
    Host.Outcome State Fault Refusal :=
  .next (windowCloses g k (advance t s))

/-- REPLY_START -/
def execReplyStart (t : Nat) (g : Seg) (s : State) : Host.Outcome State Fault Refusal :=
  .next (replyStarts g (advance t s))

/-- REPLY_COMPLETE -/
def execReplyComplete (t : Nat) (g : Seg) (chars : List Byte) (s : State) :
    Host.Outcome State Fault Refusal :=
  .next (replyEnds g chars (advance t s))

end Sys2Proof.Machine
end

