-- ==== Sys2Proof/Machine/Pacing.lean ====
section
/-! DEFINITION. The Pacing Unit (chapter 6): the START stream, the cycle-begin, missed cycles, HALT,
STOP and HALTED, and the commands that belong to it. -/

namespace Sys2Proof.Machine

/-- R124 -/
def pacingEvent (reason : PacingReason) (s : State) : State := writeEvent (.pacing reason) s

/-- R104: the anchor set in ACQUIRE and CONFIRM, with P and tol copied. -/
def anchorOn (index : BitVec 6) (s : State) : State :=
  s.setPacing { s.pacing with
    anchor := some s.now, index := index, period := s.store.cell.period, tol := s.store.cell.tol }

/-- R105, R107: the pacing record at a cycle-begin. A computation point still due is cut. -/
def cycleBegin (at_ : Nat) (index : BitVec 6) (s : State) : State :=
  let p := s.pacing
  let c := s.store.cell
  s.setPacing { p with
    anchor := some at_, serial := p.serial + 1, index := index, period := c.period, tol := c.tol,
    offset := c.computeOffset, cut := if p.cpDue.isSome then bump 65535 p.cut else p.cut,
    cpDue := some (at_ + us c.computeOffset), localDue := at_ + us c.period }

/-- R108 -/
def goodInterval (s : State) : Bool :=
  decide (us s.pacing.period ≤ sinceAnchor s + us s.pacing.tol)
    && decide (sinceAnchor s ≤ us (s.pacing.period + s.pacing.tol))

/-- R108 -/
def goodIndex (index : BitVec 6) (s : State) : Bool := decide (index = s.pacing.index + 1)

/-! ## Entry to HALTED (R122) -/

/-- R65: each engaged group goes to OPEN, group 0 first. -/
def haltGroup (g : Fin 2) (s : State) : State :=
  if engaged (s.group g) then openGroup g .halt s else s

def haltEventReason : HaltReason → PacingReason
  | .cellSilent => .cellSilent
  | .haltRequest => .haltRequest
  | .stopRequest => .stopRequest
  | .none => .haltRequest

/-- R122, step 1. -/
def becomeHalted (reason : HaltReason) (s : State) : State :=
  let s := s.setPacing { s.pacing with state := .halted, haltReason := reason, haltPending := false }
  let s := pacingEvent (haltEventReason reason) s
  if reason = .cellSilent then latch .cellSilent s else s

/-- R122: an entry to HALTED, at a cycle-begin or between cycle-begins. -/
def enterHalted (reason : HaltReason) (cycle : Bool) (s : State) : State :=
  let s := becomeHalted reason s
  let s := endDirects .halt s
  let s := abortCheck .halt s
  let s := haltGroup 1 (haltGroup 0 s)
  bothSegments true cycle s

/-- R120: at a cycle-begin, either the pending HALT is carried out or `change` is made; the
controllers follow. DEDUCED, log entry 11. -/
def carryCycle (change : State → State) (s : State) : State :=
  if s.pacing.haltPending then enterHalted .haltRequest true s
  else bothSegments false true (change s)

/-! ## START (R109 to R118, R123) -/

/-- R118: the CYCLE_SKEW event of an accepted START. -/
def skewEvent (expected index : BitVec 6) (s : State) : State :=
  if index = expected then s else writeEvent (.cycleSkew (index - expected).toNat) s

/-- R105, R118: the cycle-begin of a START accepted in TRACKING or FREEWHEEL.
DEDUCED, log entry 19. -/
def startCycle (index : BitVec 6) (s : State) : State :=
  skewEvent (s.pacing.index + 1) index (cycleBegin s.now index s)

/-- R109 -/
def startInListen (index : BitVec 6) (s : State) : State :=
  let s := anchorOn index s
  pacingEvent .firstStart (s.setPacing { s.pacing with state := .acquire })

/-- R110 -/
def startInAcquire (index : BitVec 6) (s : State) : State :=
  if goodInterval s && goodIndex index s then
    let s := anchorOn index s
    pacingEvent .goodInterval (s.setPacing { s.pacing with state := .confirm, confirm := 1 })
  else anchorOn index s

/-- R111: the entry to TRACKING. -/
def confirmed (s : State) : State :=
  pacingEvent .confirmed
    (s.setPacing { s.pacing with state := .tracking, confirm := 3, missed := 0, goodRun := 0 })

/-- R111 -/
def startInConfirm (index : BitVec 6) (s : State) : State :=
  if goodInterval s && goodIndex index s then
    if s.pacing.confirm + 1 < 3 then
      let s := anchorOn index s
      s.setPacing { s.pacing with confirm := s.pacing.confirm + 1 }
    else carryCycle confirmed (cycleBegin s.now index s)
  else
    let s := anchorOn index s
    pacingEvent .badStart (s.setPacing { s.pacing with state := .acquire, confirm := 0 })

/-- R114: an EARLY START. -/
def earlyStart (s : State) : State :=
  latch .cycleEarly (s.setPacing { s.pacing with early := bump 65535 s.pacing.early })

/-- R113, R114 -/
def startInTracking (index : BitVec 6) (s : State) : State :=
  if sinceAnchor s + us s.pacing.tol < us s.pacing.period then earlyStart s
  else if goodInterval s then carryCycle id (startCycle index s)
  else s

/-- R116: the good-run count after an accepted START, and the return to TRACKING. -/
def countGoodRun (good : Bool) (s : State) : State :=
  let n := if good then s.pacing.goodRun + 1 else 0
  if s.store.cell.rejoinCount ≤ n then
    pacingEvent .rejoined
      (s.setPacing { s.pacing with state := .tracking, missed := 0, goodRun := 0 })
  else s.setPacing { s.pacing with goodRun := n }

/-- R114, R116 -/
def startInFreewheel (index : BitVec 6) (s : State) : State :=
  if 4 * sinceAnchor s < us s.pacing.period then earlyStart s
  else carryCycle (countGoodRun (goodInterval s)) (startCycle index s)

/-- R123 -/
def startInHalted (s : State) : State :=
  s.setPacing { s.pacing with ignored := bump 65535 s.pacing.ignored }

/-- R159: a START handed to the Pacing Unit. DESIGN CHOICE, log entry 13. -/
def acceptStart (index : BitVec 6) (s : State) : State :=
  match s.pacing.state with
  | .listen => startInListen index s
  | .acquire => startInAcquire index s
  | .confirm => startInConfirm index s
  | .tracking => startInTracking index s
  | .freewheel => startInFreewheel index s
  | .halted => startInHalted s

/-! ## Deadlines (R112, R115, R117, R123) -/

/-- R112: anchor + 4P. -/
def silenceDue (s : State) : Nat := s.pacing.anchor.getD 0 + us (4 * s.pacing.period)

/-- R115, R117: anchor + P + tol. -/
def missDue (s : State) : Nat := s.pacing.anchor.getD 0 + us (s.pacing.period + s.pacing.tol)

/-- R112 -/
def silence (s : State) : State :=
  pacingEvent .silence (s.setPacing { s.pacing with
    state := .listen, confirm := 0, anchor := none, haltPending := false })

/-- R112, where its moment has come. DESIGN CHOICE, log entry 12. -/
def silenceFalls (s : State) : State :=
  if (s.pacing.state = .acquire ∨ s.pacing.state = .confirm) ∧ silenceDue s ≤ s.now then silence s
  else s

/-- R115, R117: the cycle-begin of a missed cycle. -/
def missedBegin (s : State) : State :=
  let s := cycleBegin (missDue s) (s.pacing.index + 1) s
  s.setPacing { s.pacing with missedTotal := bump 65535 s.pacing.missedTotal }

/-- R115: the move of a missed cycle in TRACKING. -/
def missedFromTracking (s : State) : State :=
  if s.store.cell.missedLimit ≤ 1 then
    enterHalted .cellSilent true (s.setPacing { s.pacing with missed := 1 })
  else
    bothSegments false true (pacingEvent .missed
      (s.setPacing { s.pacing with state := .freewheel, missed := 1, goodRun := 0 }))

/-- R117: the move of a missed cycle in FREEWHEEL. -/
def missedInFreewheel (s : State) : State :=
  let n := s.pacing.missed + 1
  let s := s.setPacing { s.pacing with missed := n, goodRun := 0 }
  if s.store.cell.missedLimit ≤ n then enterHalted .cellSilent true s
  else bothSegments false true s

/-- R115, R117, R120: a missed cycle, where its moment has come. DESIGN CHOICE, log entry 12. -/
def missedFalls (s : State) : State :=
  if missDue s ≤ s.now then
    match s.pacing.state with
    | .tracking =>
      if s.pacing.haltPending then enterHalted .haltRequest true (missedBegin s)
      else missedFromTracking (missedBegin s)
    | .freewheel =>
      if s.pacing.haltPending then enterHalted .haltRequest true (missedBegin s)
      else missedInFreewheel (missedBegin s)
    | .listen | .acquire | .confirm | .halted => s
  else s

/-- R123: the local cycle-begin in HALTED, where its moment has come.
DESIGN CHOICE, log entry 12. -/
def localFalls (s : State) : State :=
  if s.pacing.state = .halted ∧ s.pacing.localDue ≤ s.now then
    bothSegments false true (cycleBegin s.pacing.localDue (s.pacing.index + 1) s)
  else s

/-! ## HALT and STOP (R119, R121) -/

/-- R119 -/
def haltRequest : Request := fun s =>
  match s.pacing.state with
  | .listen => (s, refusedWith .wrongState 16)
  | .acquire | .confirm | .tracking | .freewheel =>
    (s.setPacing { s.pacing with haltPending := true }, doneWith 0 [])
  | .halted => (s, doneWith 0 [])

/-- R121: the first anchor + n × P, n at least 1, later than now. -/
def nextLocal (s : State) : Nat :=
  s.pacing.anchor.getD 0 + (sinceAnchor s / us s.pacing.period + 1) * us s.pacing.period

/-- R121 -/
def stopRequest : Request := fun s =>
  match s.pacing.state with
  | .listen => (s, refusedWith .wrongState 16)
  | .acquire | .confirm | .tracking | .freewheel =>
    (enterHalted .stopRequest false (s.setPacing { s.pacing with localDue := nextLocal s }),
      doneWith 0 [])
  | .halted => (s, doneWith 0 [])

/-! ## The commands -/

/-- START -/
def execStart (t : Nat) (index : BitVec 6) (s : State) : Host.Outcome State Fault Refusal :=
  .next (acceptStart index (arrive t s))

/-- SILENCE -/
def execSilence (t : Nat) (s : State) : Host.Outcome State Fault Refusal :=
  .next (silenceFalls (advance t s))

/-- MISSED_CYCLE -/
def execMissedCycle (t : Nat) (s : State) : Host.Outcome State Fault Refusal :=
  .next (missedFalls (advance t s))

/-- LOCAL_CYCLE_BEGIN -/
def execLocalCycleBegin (t : Nat) (s : State) : Host.Outcome State Fault Refusal :=
  .next (localFalls (advance t s))

/-- HALT -/
def execHalt (t : Nat) (tag : Byte) (args : List Byte) (s : State) :
    Host.Outcome State Fault Refusal :=
  .next (takeRequest 0x30 tag (noArgs haltRequest args) (arrive t s))

/-- STOP -/
def execStop (t : Nat) (tag : Byte) (args : List Byte) (s : State) :
    Host.Outcome State Fault Refusal :=
  .next (takeRequest 0x31 tag (noArgs stopRequest args) (arrive t s))

end Sys2Proof.Machine
end

