-- ==== Sys2Proof/Machine/Actions.lean ====
section
/-! DEFINITION. The requests that act on a running machine: ENTER_OPERATE, ENTER_CONFIG and RESTART
(R178 to R182), ENGAGE and RELEASE (R62 to R64), START_CHECK and ABORT_CHECK (R90, R91, R98),
DIRECT_TORQUE (R80 to R82) and CLEAR_FAULTS (R191). -/

namespace Sys2Proof.Machine

/-! ## ENTER_OPERATE (R178, R179) -/

/-- The stations whose records are present. -/
def presentStations (store : Store) : List (Fin 4) :=
  four.filter fun i => (store.stations.get i).present

/-- The enabled slots, in the order A1..A4, B1..B4. -/
def enabledEverywhere (store : Store) : List (Seg × Fin 4) :=
  allSlots.filter fun gk => ((store.slots.get gk.1.num).get gk.2).enabled

/-- How many enabled slots name a station. -/
def slotsNaming (store : Store) (i : Fin 4) : Nat :=
  ((enabledEverywhere store).filter fun gk =>
    decide (((store.slots.get gk.1.num).get gk.2).station = i)).length

/-- Whether an enabled slot names a station that is not present. -/
def namesAbsent (store : Store) (gk : Seg × Fin 4) : Bool :=
  !(store.stations.get ((store.slots.get gk.1.num).get gk.2).station).present

/-- A slot's index, 0..7 for A1..B4. -/
def slotIndex (gk : Seg × Fin 4) : Nat := gk.1.num.val * 4 + gk.2.val

/-- R178, check 4. -/
def slotsConsistent (store : Store) : Bool :=
  (presentStations store).all (fun i => decide (slotsNaming store i = 1))
    && (enabledEverywhere store).all fun gk => !namesAbsent store gk

/-- R178, check 4: the item found failing.
Two slots naming one station: DESIGN CHOICE, log entry 25. -/
def slotsFailing (store : Store) : List Byte :=
  match (presentStations store).find? fun i => decide (slotsNaming store i = 0) with
  | some i => beBytes 1 i.val
  | none =>
    match (enabledEverywhere store).find? (namesAbsent store) with
    | some gk => beBytes 1 (16 + slotIndex gk)
    | none => []

/-- R178, check 5, for one group. DEDUCED, log entry 24. -/
def groupConsistent (store : Store) (g : Fin 2) : Bool :=
  let r := store.groups.get g
  (membersOf r).all (fun i => (store.stations.get i).present)
    && (decide (r.kind = .mean) || isMember r r.leader)

/-- R178, check 6, for one station record. -/
def roundConsistent (r : StationRec) : Bool :=
  decide (1000 * ((r.circumference * 10000 : Nat) - (r.radius * 62832 : Nat) : Int).natAbs
    ≤ r.radius * 62832)

/-- R178, check 7: no window opens before one of a lower slot closes. -/
def windowsOrdered : List SlotRec → Bool
  | [] => true
  | r :: rest => rest.all (fun q => decide (r.close ≤ q.earliest)) && windowsOrdered rest

/-- R178, check 7, for one segment. -/
def windowsConsistent (store : Store) (g : Seg) : Bool :=
  let recs := (enabledSlots store g).map (store.slots.get g.num).get
  windowsOrdered recs
    && recs.all fun r =>
        decide (store.cell.delay.get g.num + r.close < store.cell.computeOffset)

/-- A failed check of R178 with its data. -/
def tableCheck (n : Nat) (data : List Byte) : Answer :=
  { result := .tableCheck, detail := n, data := data }

/-- The first of a list that fails a check, as the data byte that names it. -/
def firstItem {α : Type} (items : List α) (number : α → Nat) (ok : α → Bool) : List Byte :=
  match items.find? fun x => !ok x with
  | some x => beBytes 1 (number x)
  | none => []

/-- R178: the answer of the first check that fails. -/
def storeFailure (store : Store) : Option Answer :=
  let present := presentStations store
  let roundOk := fun i : Fin 4 => roundConsistent (store.stations.get i)
  if store.road.rows.length < 2 then some (tableCheck 1 [])
  else if present.isEmpty then some (tableCheck 2 [])
  else if (present.map fun i => (store.stations.get i).share).sum ≠ 1024 then some (tableCheck 3 [])
  else if !slotsConsistent store then some (tableCheck 4 (slotsFailing store))
  else if !([0, 1].all (groupConsistent store)) then
    some (tableCheck 5 (firstItem [0, 1] Fin.val (groupConsistent store)))
  else if !(present.all roundOk) then some (tableCheck 6 (firstItem present Fin.val roundOk))
  else if !([Seg.a, Seg.b].all (windowsConsistent store)) then
    some (tableCheck 7 (firstItem [Seg.a, Seg.b] (fun g => g.num.val) (windowsConsistent store)))
  else if store.cell.period ≤ store.cell.computeOffset + store.cell.tol then some (tableCheck 8 [])
  else none

/-- R172, R179: the mode changed, with its MODE event. -/
def changeMode (m : Mode) (s : State) : State :=
  writeEvent (.mode m) (s.setMgmt { s.mgmt with mode := m })

/-- R178, R179 -/
def enterOperate : Request := fun s =>
  if s.mgmt.mode = .operate then (s, doneWith 1 [])
  else
    match storeFailure s.store with
    | some a => (s, a)
    | none => (changeMode .operate s, doneWith 0 [])

/-! ## ENTER_CONFIG (R180) -/

/-- R66: only the state and the reason change; the integrators of a BROKEN group are 0 already.
DEDUCED, log entry 29. -/
def configGroup (g : Fin 2) (s : State) : State :=
  if (s.group g).state = .broken then
    groupEvent g (s.setGroup g { s.group g with state := .opened, reason := .config })
  else s

/-- R70, R180: every entry SAFE, every slew memory 0. -/
def safeSetPoints (s : State) : State :=
  (s.setSetpoints (Four.tabulate fun _ => SetPoint.safe s.pacing.serial)).setStations
    (Four.tabulate fun i => { s.station i with slewMemory := 0 })

/-- R180 -/
def enterConfig : Request := fun s =>
  if s.mgmt.mode = .config then (s, doneWith 1 [])
  else
    match ([0, 1] : List (Fin 2)).find? fun g => engaged (s.group g) with
    | some g => (s, { result := .wrongState, detail := 17, data := beBytes 1 g.val })
    | none =>
      match four.find? fun i => (s.direct i).active with
      | some i => (s, { result := .wrongState, detail := 18, data := beBytes 1 i.val })
      | none =>
        (safeSetPoints (configGroup 1 (configGroup 0 (changeMode .config s))), doneWith 0 [])

/-! ## RESTART (R181, R182) -/

/-- R125 -/
def restartPacing (c : CellRec) (p : Pacing) : Pacing :=
  { p with
    state := .listen, haltReason := .none, anchor := none, confirm := 0, missed := 0, goodRun := 0,
    haltPending := false, period := c.period, tol := c.tol, offset := c.computeOffset,
    cpDue := none }

/-- R4, R153: a station's init values cleared; WAITING if present, else ABSENT. -/
def restartStation (rec : StationRec) (x : StationRt) : StationRt :=
  let x := { x with init := InitValues.clear }
  if rec.present then waitingRt rec x else absentRt x

/-- R79 -/
def restartDirect (d : Direct) : Direct := { d with active := false, torque := 0, remaining := 0 }

/-- R181, step 4. -/
def restartMachines (s : State) : State :=
  { s with
    mgmt := { s.mgmt with mode := .config }, pacing := restartPacing s.store.cell s.pacing,
    segs := Two.tabulate fun g => restartSegment (s.segs.get g),
    stations := Four.tabulate fun i => restartStation (s.store.stations.get i) (s.station i),
    groups := Two.tabulate fun _ => GroupRt.reset,
    directs := Four.tabulate fun i => restartDirect (s.direct i),
    check := { s.check with running := false },
    setpoints := Four.tabulate fun _ => SetPoint.safe s.pacing.serial,
    demand := EffDemand.reset, report := { s.report with faults := 0 } }

/-- R181 -/
def restart : Request := fun s =>
  let s := endDirects .restart s
  let s := abortCheck .restart s
  let s := writeEvent .restarted s
  (restartMachines s, doneWith 0 [])

/-! ## ENGAGE and RELEASE (R62 to R64) -/

def running (s : State) : Bool :=
  decide (s.pacing.state = .tracking) || decide (s.pacing.state = .freewheel)

/-- R63 -/
def engagedRt (x : GroupRt) : GroupRt :=
  { zeroCounts x with
    state := .capturing, reason := .engage, integrator := zeros, ramped := none }

/-- R62, checks 3 to 7, of group `g`. -/
def engageRefusal (s : State) (g : Fin 2) : Option Answer :=
  let members := membersOf (s.store.groups.get g)
  if (s.group g).state ≠ .opened then some (refusedWith .wrongState 17)
  else if members.isEmpty then some (refusedWith .badArgument 1)
  else if !running s then some (refusedWith .wrongState 16)
  else
    match members.find? fun i => decide ((s.station i).state ≠ .live) with
    | some i => some (refusedWith .wrongState i.val)
    | none =>
      match members.find? fun i => (s.direct i).active with
      | some i => some (refusedWith .busy i.val)
      | none => none

/-- R62, R63 -/
def engage (args : List Byte) : Request := fun s =>
  match splitFields [1] args with
  | some [n] =>
    if 1 < n then (s, refusedWith .badArgument 0)
    else if s.mgmt.mode ≠ .operate then (s, refusedWith .wrongMode 0)
    else
      let g : Fin 2 := Fin.ofNat 2 n
      match engageRefusal s g with
      | some a => (s, a)
      | none => (groupEvent g (s.setGroup g (engagedRt (s.group g))), doneWith 0 [])
  | _ => (s, badFit)

/-- R64, R99: a check running on the group ends before the GROUP event. -/
def releaseGroup (g : Fin 2) (s : State) : State :=
  openGroup g .release (if s.check.group = g then abortCheck .release s else s)

/-- R64 -/
def release (args : List Byte) : Request := fun s =>
  match splitFields [1] args with
  | some [n] =>
    if 1 < n then (s, refusedWith .badArgument 0)
    else
      let g : Fin 2 := Fin.ofNat 2 n
      if (s.group g).state = .opened then (s, doneWith 0 []) else (releaseGroup g s, doneWith 0 [])
  | _ => (s, badFit)

/-! ## START_CHECK and ABORT_CHECK (R90, R91, R98) -/

/-- R90, checks 1 to 6. -/
def checkArguments (g i len step off band : Nat) : List (Nat × Bool) :=
  [(0, decide (g ≤ 1)), (1, decide (i ≤ 3)), (3, inRange 8 16 len),
   (4, decide (step ∈ [1, 2, 4, 8])), (5, inRange 1 5000 off), (6, inRange 0 10000000 band)]

/-- R90, check 10. -/
def mayProbe (r : GroupRec) (i : Fin 4) : Bool :=
  isMember r i && !(decide (r.kind = .leader) && decide (r.leader = i))

/-- R91 -/
def startedCheck (g : Fin 2) (i : Fin 4) (pattern len step off band : Nat) : CheckContext :=
  { running := true, group := g, station := i, pattern := BitVec.ofNat 16 pattern, length := len,
    step := step, offset := off, band := band, elapsed := 0, peak := 0 }

/-- R90, R91 -/
def startCheck (args : List Byte) : Request := fun s =>
  match splitFields [1, 1, 2, 1, 1, 2, 3] args with
  | some [n, m, pattern, len, step, off, band] =>
    match firstFailing (checkArguments n m len step off band) with
    | some k => (s, refusedWith .badArgument k)
    | none =>
      let g : Fin 2 := Fin.ofNat 2 n
      let i : Fin 4 := Fin.ofNat 4 m
      if s.mgmt.mode ≠ .operate then (s, refusedWith .wrongMode 0)
      else if (s.group g).state ≠ .locked then (s, refusedWith .wrongState 17)
      else if s.check.running then (s, refusedWith .busy s.check.group.val)
      else if !mayProbe (s.store.groups.get g) i then (s, refusedWith .badArgument 1)
      else (s.setCheck (startedCheck g i pattern len step off band), doneWith 0 [])
  | _ => (s, badFit)

/-- R98 -/
def abortRequest : Request := fun s =>
  if s.check.running then (abortCheck .abortRequest s, doneWith 1 []) else (s, doneWith 0 [])

/-! ## DIRECT_TORQUE (R80 to R82) -/

/-- R81 -/
def startDirect (i : Fin 4) (torque : Int) (duration : Nat) (s : State) : State :=
  let s := endDirect .replaced i s
  writeEvent (.direct i true)
    (s.setDirect i { s.direct i with active := true, torque := torque, remaining := duration })

/-- R80, checks 4 to 7. -/
def directRefusal (s : State) (i : Fin 4) (torque : Int) : Option Answer :=
  if 300000 < torque.natAbs then some (refusedWith .badArgument 1)
  else if !running s then some (refusedWith .wrongState 16)
  else if !liveOrStale (s.station i) then some (refusedWith .wrongState 18)
  else
    match ([0, 1] : List (Fin 2)).find? fun g =>
        isMember (s.store.groups.get g) i && engaged (s.group g) with
    | some g => some (refusedWith .busy g.val)
    | none => none

/-- R80, R81, R82 -/
def directTorque (args : List Byte) : Request := fun s =>
  match splitFields [1, 3, 2] args with
  | some [n, torque, duration] =>
    let i : Fin 4 := Fin.ofNat 4 n
    if 3 < n then (s, refusedWith .badArgument 0)
    else if s.mgmt.mode ≠ .operate then (s, refusedWith .wrongMode 0)
    else if duration = 0 then (endDirect .cancelled i s, doneWith 0 [])
    else
      match directRefusal s i (signedField 3 torque) with
      | some a => (s, a)
      | none => (startDirect i (signedField 3 torque) duration s, doneWith 0 [])
  | _ => (s, badFit)

/-! ## CLEAR_FAULTS (R191) -/

/-- R21: the conditions of the re-test. -/
def retestPasses (s : State) (i : Fin 4) : Bool :=
  let x := s.station i
  decide (stationSegState s i = some .up) && validInit x.init
    && (match x.status with
        | some b => !statusFault b
        | none => true)
    && (match x.speed with
        | some v => decide (v.natAbs < x.overspeedLimit)
        | none => true)

/-- R21: the re-test of a FAULTED station. -/
def retest (i : Fin 4) (s : State) : State :=
  if (s.station i).state = .faulted ∧ retestPasses s i = true then
    s.setStation i (waitingRt (s.store.stations.get i) (s.station i))
  else s

/-- R191: what the treatment of a flag does before its condition is judged. -/
def treatFlag (f : Flag) (s : State) : State :=
  match f with
  | .eventOverrun => s.setReport { s.report with overruns := 0 }
  | .segJammed g => clearJam g s
  | .stationFault i => retest i s
  | .cycleEarly | .cellSilent | .demandLost | .linkCheck | .segSilent _ | .slotError _
  | .lockBroken _ | .checkFailed => s

/-- R191: the flag's condition persists. -/
def persists (f : Flag) (s : State) : Bool :=
  match f with
  | .cellSilent => decide (s.pacing.state = .halted)
  | .demandLost => decide (s.store.cell.demandHold < s.demand.age)
  | .segJammed g => decide ((s.seg g).state = .jammed)
  | .stationFault i => decide ((s.station i).state = .faulted)
  | .lockBroken g => decide ((s.group g).state = .broken)
  | .cycleEarly | .linkCheck | .eventOverrun | .segSilent _ | .slotError _ | .checkFailed => false

/-- R191: one flag of the mask. -/
def clearFlag (mask : BitVec 18) (s : State) (f : Flag) : State :=
  if mask.getLsbD (flagBit f) then
    let s := treatFlag f s
    if persists f s then s else unlatch f s
  else s

/-- R191: the flags that stayed; a flag that a later treatment latched did not stay.
DEDUCED, log entry 33. -/
def stayedFlags (mask : BitVec 18) : State → List Flag → List Flag
  | _, [] => []
  | s, f :: rest =>
    let s' := clearFlag mask s f
    if mask.getLsbD (flagBit f) && persists f s' && isLatched f s' then
      f :: stayedFlags mask s' rest
    else stayedFlags mask s' rest

def flagSet (fs : List Flag) : BitVec 18 := fs.foldl (fun m f => m ||| flagMask f) 0

/-- R191 -/
def clearFaults (args : List Byte) : Request := fun s =>
  match splitFields [3] args with
  | some [n] =>
    if 2 ^ 18 ≤ n then (s, refusedWith .badArgument 1)
    else
      let mask := BitVec.ofNat 18 n
      let stayed := stayedFlags mask s allFlags
      (allFlags.foldl (clearFlag mask) s, doneWith stayed.length (maskBytes (flagSet stayed)))
  | _ => (s, badFit)

/-! ## The commands -/

/-- ENTER_OPERATE -/
def execEnterOperate (t : Nat) (tag : Byte) (args : List Byte) (s : State) :
    Host.Outcome State Fault Refusal :=
  .next (takeRequest 0x20 tag (noArgs enterOperate args) (arrive t s))

/-- ENTER_CONFIG -/
def execEnterConfig (t : Nat) (tag : Byte) (args : List Byte) (s : State) :
    Host.Outcome State Fault Refusal :=
  .next (takeRequest 0x21 tag (noArgs enterConfig args) (arrive t s))

/-- RESTART -/
def execRestart (t : Nat) (tag : Byte) (args : List Byte) (s : State) :
    Host.Outcome State Fault Refusal :=
  .next (takeRequest 0x22 tag (noArgs restart args) (arrive t s))

/-- ENGAGE -/
def execEngage (t : Nat) (tag : Byte) (args : List Byte) (s : State) :
    Host.Outcome State Fault Refusal :=
  .next (takeRequest 0x40 tag (engage args) (arrive t s))

/-- RELEASE -/
def execRelease (t : Nat) (tag : Byte) (args : List Byte) (s : State) :
    Host.Outcome State Fault Refusal :=
  .next (takeRequest 0x41 tag (release args) (arrive t s))

/-- START_CHECK -/
def execStartCheck (t : Nat) (tag : Byte) (args : List Byte) (s : State) :
    Host.Outcome State Fault Refusal :=
  .next (takeRequest 0x50 tag (startCheck args) (arrive t s))

/-- ABORT_CHECK -/
def execAbortCheck (t : Nat) (tag : Byte) (args : List Byte) (s : State) :
    Host.Outcome State Fault Refusal :=
  .next (takeRequest 0x51 tag (noArgs abortRequest args) (arrive t s))

/-- DIRECT_TORQUE -/
def execDirectTorque (t : Nat) (tag : Byte) (args : List Byte) (s : State) :
    Host.Outcome State Fault Refusal :=
  .next (takeRequest 0x60 tag (directTorque args) (arrive t s))

/-- CLEAR_FAULTS -/
def execClearFaults (t : Nat) (tag : Byte) (args : List Byte) (s : State) :
    Host.Outcome State Fault Refusal :=
  .next (takeRequest 0x70 tag (clearFaults args) (arrive t s))

end Sys2Proof.Machine
end

