-- ==== Sys2Proof/Machine/Loads.lean ====
section
/-! DEFINITION. The load requests (R5, R31, R41, R129, R173 to R175, R186): their argument fields, their
checks in order, and what a load that passes replaces. -/

namespace Sys2Proof.Machine

/-- R171, R173: the first failing check refuses with its number; a load that passes takes effect. -/
def checkedLoad (checks : List (Nat × Bool)) (apply : State → State) : Request := fun s =>
  match firstFailing checks with
  | some n => (s, refusedWith .badArgument n)
  | none => (apply s, doneWith 0 [])

/-- R173: in OPERATE a load is refused. -/
def inConfig (body : Request) : Request := fun s =>
  if s.mgmt.mode = .operate then (s, refusedWith .wrongMode 0) else body s

/-- A yes or no as a byte (R198). -/
def isFlagByte (n : Nat) : Bool := decide (n ≤ 1)

def yes (n : Nat) : Bool := decide (n = 1)

/-! ## LOAD_CELL (R174) -/

def cellWidths : List Nat := [2, 1, 1, 1, 2, 2, 2, 1, 1, 1, 1, 1, 3]

/-- R174: the checks on the thirteen fields, in order. -/
def cellChecks (p tol missed rejoin da db off hold jam ba bb width mask : Nat) : List (Nat × Bool) :=
  [(1, decide (p = 250) || decide (p = 500) || decide (p = 1000) || decide (p = 2000)),
   (2, decide (1 ≤ tol) && decide (tol * 8 ≤ p)), (3, inRange 1 15 missed),
   (4, inRange 1 15 rejoin), (5, inRange 0 500 da), (6, inRange 0 500 db), (7, inRange 1 1999 off),
   (8, inRange 1 255 hold), (9, inRange 1 8 jam), (10, isFlagByte ba), (11, isFlagByte bb),
   (12, inRange 0 6 width), (13, decide (mask < 2 ^ 18))]

def cellOf (p tol missed rejoin da db off hold jam ba bb width mask : Nat) : CellRec :=
  { period := p, tol := tol, missedLimit := missed, rejoinCount := rejoin, delay := ⟨da, db⟩,
    computeOffset := off, demandHold := hold, jamLimit := jam, bootSkip := ⟨yes ba, yes bb⟩,
    reportWidth := width, attention := BitVec.ofNat 18 mask }

/-- R174, R175 -/
def loadCell (args : List Byte) : Request := fun s =>
  match splitFields cellWidths args with
  | some [p, tol, missed, rejoin, da, db, off, hold, jam, ba, bb, width, mask] =>
    inConfig
      (checkedLoad (cellChecks p tol missed rejoin da db off hold jam ba bb width mask) fun s =>
        s.setStore { s.store with
          cell := cellOf p tol missed rejoin da db off hold jam ba bb width mask }) s
  | _ => (s, badFit)

/-! ## LOAD_ROADLOAD (R31) -/

/-- R198: the rows, five bytes each. -/
def roadRows (n : Nat) (bytes : List Byte) : List RoadRow :=
  (List.range n).map fun j =>
    { speed := beNat ((bytes.drop (5 * j)).take 3), force := beNat ((bytes.drop (5 * j + 3)).take 2) }

/-- R31, check 2: the number of the first bad row. -/
def firstBadRow (n previous : Nat) : List RoadRow → Option Nat
  | [] => none
  | r :: rest =>
    if inRange 1 90000 r.speed && inRange 0 30000 r.force && decide (previous < r.speed) then
      firstBadRow (n + 1) r.speed rest
    else some n

/-- R31 -/
def roadChecks (n : Nat) (rows : List RoadRow) (band : Nat) : List (Nat × Bool) :=
  [(0, inRange 2 24 n), ((firstBadRow 1 0 rows).getD 0, (firstBadRow 1 0 rows).isNone),
   (25, inRange 0 2000000 band)]

/-- R31, R198: the byte count is that of the rows the request names. -/
def loadRoadload (args : List Byte) : Request := fun s =>
  match args with
  | [] => (s, badFit)
  | count :: bytes =>
    let n := count.toNat
    if bytes.length ≠ 5 * n + 3 then (s, badFit)
    else
      let rows := roadRows n bytes
      let band := beNat (bytes.drop (5 * n))
      inConfig (checkedLoad (roadChecks n rows band) fun s =>
        s.setStore { s.store with road := { rows := rows, band := band } }) s

/-! ## LOAD_STATION (R5) -/

def stationWidths : List Nat := [1, 1, 3, 3, 1, 2, 2, 3, 3, 4, 1, 4, 1, 1, 3, 3, 2]

/-- R3: the ranges of fields 2 to 16. -/
def stationFieldChecks (circ radius dir share mass limit slew ospeed debounce step hold window counts
    torque speed : Nat) : List (Nat × Bool) :=
  [(2, inRange 500000 6000000 circ), (3, inRange 75000 955000 radius),
   (4, decide (dir = 0x01) || decide (dir = 0xFF)), (5, inRange 0 1024 share),
   (6, inRange 0 3000 mass), (7, inRange 1 300000 limit), (8, inRange 1 300000 slew),
   (9, inRange 1000000 90000000 ospeed), (10, inRange 1 15 debounce), (11, inRange 1 90000000 step),
   (12, inRange 1 8 hold), (13, inRange 1 7 window), (14, inRange 1 1048576 counts),
   (15, inRange 1 300000 torque), (16, inRange 1 20000 speed)]

def stationOf (circ radius dir share mass limit slew ospeed debounce step hold window counts torque
    speed : Nat) : StationRec :=
  { present := true, circumference := circ, radius := radius,
    direction := if dir = 0x01 then .plus else .minus, share := share, mechMass := mass,
    torqueLimit := limit, slew := slew, overspeed := ospeed, overspeedDebounce := debounce,
    maxStep := step, holdLimit := hold, accelWindow := window, fallbackCounts := counts,
    fallbackTorque := torque, fallbackSpeed := speed }

/-- R5: a record replaced whole, the station entering WAITING. -/
def placeStation (i : Fin 4) (rec : StationRec) (s : State) : State :=
  (s.setStore { s.store with stations := s.store.stations.set i rec }).setStation i
    (waitingRt rec (s.station i))

/-- R5: a record made not present, the station going to ABSENT. -/
def removeStation (i : Fin 4) (s : State) : State :=
  (s.setStore { s.store with stations := s.store.stations.set i StationRec.reset }).setStation i
    (absentRt (s.station i))

/-- R5 -/
def loadStation (args : List Byte) : Request := fun s =>
  match splitFields stationWidths args with
  | some [n, present, circ, radius, dir, share, mass, limit, slew, ospeed, debounce, step, hold,
          window, counts, torque, speed] =>
    inConfig
      (checkedLoad
        ([(0, decide (n ≤ 3)), (1, isFlagByte present)] ++
          if yes present then
            stationFieldChecks circ radius dir share mass limit slew ospeed debounce step hold window
              counts torque speed
          else [])
        (if yes present then
          placeStation (Fin.ofNat 4 n)
            (stationOf circ radius dir share mass limit slew ospeed debounce step hold window counts
              torque speed)
        else removeStation (Fin.ofNat 4 n))) s
  | _ => (s, badFit)

/-! ## LOAD_GROUP (R41) -/

def groupWidths : List Nat := [1, 1, 1, 1, 2, 2, 3, 2, 1, 1, 2, 3, 3, 3, 1, 1, 2, 3, 2, 1]

/-- R41: each field in the order of R40, with the relation it is reported for.
DEDUCED, log entry 18. -/
def groupChecks (other : BitVec 4) (n members kind leader kp ki clamp auth cycles confirm timeout
    capture slip break_ debounce recover count drift accel window : Nat) : List (Nat × Bool) :=
  [(0, decide (n ≤ 1)),
   (1, decide (members < 16) && decide (BitVec.ofNat 4 members &&& other = 0)),
   (2, decide (kind ≤ 1)), (3, decide (leader ≤ 3)), (4, inRange 0 65535 kp),
   (5, inRange 0 65535 ki), (6, inRange 1 1000000 clamp), (7, inRange 0 40000 auth),
   (8, inRange 1 255 cycles), (9, inRange 1 255 confirm), (10, inRange 1 4095 timeout),
   (11, inRange 0 10000000 capture), (12, inRange 0 10000000 slip && decide (capture ≤ slip)),
   (13, inRange 0 10000000 break_ && decide (slip < break_)), (14, inRange 1 255 debounce),
   (15, inRange 1 255 recover), (16, inRange 1 4095 count),
   (17, inRange 1 1000000 drift && decide (drift ≤ clamp)), (18, inRange 1 20000 accel),
   (19, inRange 1 7 window)]

def groupRecOf (members kind leader kp ki clamp auth cycles confirm timeout capture slip break_
    debounce recover count drift accel window : Nat) : GroupRec :=
  { members := BitVec.ofNat 4 members, kind := if kind = 0 then .mean else .leader,
    leader := Fin.ofNat 4 leader, kp := kp, ki := ki, integratorClamp := clamp, authority := auth,
    captureCycles := cycles, captureConfirm := confirm, captureTimeout := timeout,
    captureBand := capture, slipBand := slip, breakBand := break_, slipDebounce := debounce,
    recoverCount := recover, breakCount := count, driftLimit := drift, accelLimit := accel,
    accelWindow := window }

/-- The other group. -/
def otherGroup (g : Fin 2) : Fin 2 :=
  match g with
  | 0 => 1
  | 1 => 0

/-- R41: the record replaced, the runtime record at its RESTART values. -/
def placeGroup (g : Fin 2) (rec : GroupRec) (s : State) : State :=
  (s.setStore { s.store with groups := s.store.groups.set g rec }).setGroup g GroupRt.reset

/-- R41 -/
def loadGroup (args : List Byte) : Request := fun s =>
  match splitFields groupWidths args with
  | some [n, members, kind, leader, kp, ki, clamp, auth, cycles, confirm, timeout, capture, slip,
          break_, debounce, recover, count, drift, accel, window] =>
    inConfig
      (checkedLoad
        (groupChecks (s.store.groups.get (otherGroup (Fin.ofNat 2 n))).members n members kind leader
          kp ki clamp auth cycles confirm timeout capture slip break_ debounce recover count drift
          accel window)
        (placeGroup (Fin.ofNat 2 n)
          (groupRecOf members kind leader kp ki clamp auth cycles confirm timeout capture slip break_
            debounce recover count drift accel window))) s
  | _ => (s, badFit)

/-! ## LOAD_SLOT (R129) -/

def slotWidths : List Nat := [1, 1, 1, 1, 1, 2, 2]

/-- R129, check 7: no other enabled slot names the station. -/
def stationFree (store : Store) (g : Seg) (k : Fin 4) (i : Fin 4) : Bool :=
  allSlots.all fun gk =>
    decide (gk = (g, k)) || !((store.slots.get gk.1.num).get gk.2).enabled
      || decide (((store.slots.get gk.1.num).get gk.2).station ≠ i)

/-- R129, checks 4 to 7. -/
def slotChecks (store : Store) (g : Seg) (n enabled station address earliest close : Nat) :
    List (Nat × Bool) :=
  [(1, inRange 1 4 n), (2, isFlagByte enabled)] ++
    if yes enabled then
      [(3, decide (station ≤ 3)), (4, decide (address ≤ 15)), (5, decide (earliest ≤ 1999)),
       (6, inRange 1 2000 close), (6, decide (earliest < close)),
       (3, stationFree store g (Fin.ofNat 4 (n - 1)) (Fin.ofNat 4 station))]
    else []

def slotOf (enabled station address earliest close : Nat) : SlotRec :=
  if yes enabled then
    { enabled := true, station := Fin.ofNat 4 station, address := address, earliest := earliest,
      close := close }
  else SlotRec.reset

/-- R129: the record replaced, the buffer EMPTY, the last class NONE, the error count kept. -/
def placeSlot (g : Seg) (k : Fin 4) (rec : SlotRec) (s : State) : State :=
  (s.setStore { s.store with
    slots := s.store.slots.set g.num ((s.store.slots.get g.num).set k rec) }).setSlot g k
      { s.slot g k with buffer := none, lastClass := .none }

/-- R129, check 3. -/
def segmentAtRest (s : State) (g : Seg) : Bool :=
  decide ((s.seg g).state = .down) || decide ((s.seg g).state = .jammed)

/-- R129 -/
def loadSlot (args : List Byte) : Request := fun s =>
  match splitFields slotWidths args with
  | some [seg, n, enabled, station, address, earliest, close] =>
    inConfig (fun s =>
      if 1 < seg then (s, refusedWith .badArgument 0)
      else
        let g : Seg := if seg = 0 then .a else .b
        if !segmentAtRest s g then (s, refusedWith .wrongState 19)
        else
          checkedLoad (slotChecks s.store g n enabled station address earliest close)
            (placeSlot g (Fin.ofNat 4 (n - 1)) (slotOf enabled station address earliest close)) s) s
  | _ => (s, badFit)

/-! ## LOAD_SCHEDULE (R186) -/

def scheduleWidths : List Nat := [1, 1, 1, 1, 1, 1, 1]

/-- R186: the operand's range by the item kind. -/
def operandFits (kind : ItemKind) (operand : Nat) : Bool :=
  match kind with
  | .stationMotion | .stationDrive => decide (operand ≤ 3)
  | .group => decide (operand ≤ 1)
  | .slot => decide (operand ≤ 7)
  | .null | .counters | .check => decide (operand ≤ 255)

/-- R186 -/
def scheduleChecks (n enabled kind operand position repetition offset : Nat) : List (Nat × Bool) :=
  [(0, decide (n ≤ 15)), (1, isFlagByte enabled)] ++
    if yes enabled then
      [(2, (itemKindOf kind).isSome), (3, operandFits ((itemKindOf kind).getD .null) operand),
       (4, decide (position ≤ 5)), (5, decide (repetition ∈ [1, 2, 4, 8, 16, 32, 64])),
       (6, decide (offset < repetition))]
    else []

def schedEntryOf (enabled kind operand position repetition offset : Nat) : SchedEntry :=
  if yes enabled then
    { enabled := true, kind := (itemKindOf kind).getD .null, operand := operand,
      position := position, repetition := repetition, offset := offset }
  else SchedEntry.reset

/-- R186: taken in either mode. -/
def loadSchedule (args : List Byte) : Request := fun s =>
  match splitFields scheduleWidths args with
  | some [n, enabled, kind, operand, position, repetition, offset] =>
    checkedLoad (scheduleChecks n enabled kind operand position repetition offset) (fun s =>
      s.setStore { s.store with
        schedule := s.store.schedule.set n
          (schedEntryOf enabled kind operand position repetition offset) }) s
  | _ => (s, badFit)

/-! ## The commands -/

/-- LOAD_CELL -/
def execLoadCell (t : Nat) (tag : Byte) (args : List Byte) (s : State) :
    Host.Outcome State Fault Refusal :=
  .next (takeRequest 0x01 tag (loadCell args) (arrive t s))

/-- LOAD_ROADLOAD -/
def execLoadRoadload (t : Nat) (tag : Byte) (args : List Byte) (s : State) :
    Host.Outcome State Fault Refusal :=
  .next (takeRequest 0x02 tag (loadRoadload args) (arrive t s))

/-- LOAD_STATION -/
def execLoadStation (t : Nat) (tag : Byte) (args : List Byte) (s : State) :
    Host.Outcome State Fault Refusal :=
  .next (takeRequest 0x03 tag (loadStation args) (arrive t s))

/-- LOAD_GROUP -/
def execLoadGroup (t : Nat) (tag : Byte) (args : List Byte) (s : State) :
    Host.Outcome State Fault Refusal :=
  .next (takeRequest 0x04 tag (loadGroup args) (arrive t s))

/-- LOAD_SLOT -/
def execLoadSlot (t : Nat) (tag : Byte) (args : List Byte) (s : State) :
    Host.Outcome State Fault Refusal :=
  .next (takeRequest 0x05 tag (loadSlot args) (arrive t s))

/-- LOAD_SCHEDULE -/
def execLoadSchedule (t : Nat) (tag : Byte) (args : List Byte) (s : State) :
    Host.Outcome State Fault Refusal :=
  .next (takeRequest 0x06 tag (loadSchedule args) (arrive t s))

end Sys2Proof.Machine
end

