-- ==== Sys2Proof/Machine/Reads.lean ====
section
/-! DEFINITION. The read requests READ_TABLE, READ_RUNTIME, READ_EVENTS and READ_CHECK (R101, R176,
R177, R194), and the bytes of their replies (R200). -/

namespace Sys2Proof.Machine

/-! ## The configuration store (R176) -/

/-- The cell record, in the widths of LOAD_CELL. -/
def cellBytes (c : CellRec) : List Byte :=
  beBytes 2 c.period ++ beBytes 1 c.tol ++ beBytes 1 c.missedLimit ++ beBytes 1 c.rejoinCount
    ++ beBytes 2 (c.delay.get 0) ++ beBytes 2 (c.delay.get 1) ++ beBytes 2 c.computeOffset
    ++ beBytes 1 c.demandHold ++ beBytes 1 c.jamLimit ++ beBool (c.bootSkip.get 0)
    ++ beBool (c.bootSkip.get 1) ++ beBytes 1 c.reportWidth ++ maskBytes c.attention

def roadRowBytes (r : RoadRow) : List Byte := beBytes 3 r.speed ++ beBytes 2 r.force

/-- Up to eight rows beginning at row `first`, counted from 1. -/
def roadBytes (t : RoadTable) (first : Nat) : List Byte :=
  beBytes 1 t.rows.length ++ beBytes 3 t.band
    ++ (((t.rows.drop (first - 1)).take 8).map roadRowBytes).flatten

/-- The station record, in the widths of LOAD_STATION. -/
def stationRecBytes (r : StationRec) : List Byte :=
  beBool r.present ++ beBytes 3 r.circumference ++ beBytes 3 r.radius
    ++ beBytes 1 (directionCode r.direction) ++ beBytes 2 r.share ++ beBytes 2 r.mechMass
    ++ beBytes 3 r.torqueLimit ++ beBytes 3 r.slew ++ beBytes 4 r.overspeed
    ++ beBytes 1 r.overspeedDebounce ++ beBytes 4 r.maxStep ++ beBytes 1 r.holdLimit
    ++ beBytes 1 r.accelWindow ++ beBytes 3 r.fallbackCounts ++ beBytes 3 r.fallbackTorque
    ++ beBytes 2 r.fallbackSpeed

/-- The group record, in the widths of LOAD_GROUP. -/
def groupRecBytes (r : GroupRec) : List Byte :=
  beBytes 1 r.members.toNat ++ beBytes 1 (groupKindCode r.kind) ++ beBytes 1 r.leader.val
    ++ beBytes 2 r.kp ++ beBytes 2 r.ki ++ beBytes 3 r.integratorClamp ++ beBytes 2 r.authority
    ++ beBytes 1 r.captureCycles ++ beBytes 1 r.captureConfirm ++ beBytes 2 r.captureTimeout
    ++ beBytes 3 r.captureBand ++ beBytes 3 r.slipBand ++ beBytes 3 r.breakBand
    ++ beBytes 1 r.slipDebounce ++ beBytes 1 r.recoverCount ++ beBytes 2 r.breakCount
    ++ beBytes 3 r.driftLimit ++ beBytes 2 r.accelLimit ++ beBytes 1 r.accelWindow

/-- The slot record, in the widths of LOAD_SLOT. -/
def slotRecBytes (r : SlotRec) : List Byte :=
  beBool r.enabled ++ beBytes 1 r.station.val ++ beBytes 1 r.address ++ beBytes 2 r.earliest
    ++ beBytes 2 r.close

def schedEntryBytes (e : SchedEntry) : List Byte :=
  beBool e.enabled ++ beBytes 1 (itemKindCode e.kind) ++ beBytes 1 e.operand
    ++ beBytes 1 e.position ++ beBytes 1 e.repetition ++ beBytes 1 e.offset

/-- An answer with data where the operand is in range, BAD_ARGUMENT detail 2 otherwise. -/
def readAnswer (ok : Bool) (data : List Byte) : Answer :=
  if ok then doneWith 0 data else refusedWith .badArgument 2

/-- R176 -/
def tableAnswer (s : State) (selector operand : Nat) : Answer :=
  match selector with
  | 0 => readAnswer (decide (operand = 0)) (cellBytes s.store.cell)
  | 1 => readAnswer (inRange 1 24 operand) (roadBytes s.store.road operand)
  | 2 => readAnswer (inRange 0 3 operand) (stationRecBytes (s.store.stations.get (Fin.ofNat 4 operand)))
  | 3 => readAnswer (inRange 0 1 operand) (groupRecBytes (s.store.groups.get (Fin.ofNat 2 operand)))
  | 4 =>
    readAnswer (inRange 0 7 operand)
      (slotRecBytes (s.slotRec (slotOfOperand operand).1 (slotOfOperand operand).2))
  | 5 =>
    readAnswer (inRange 0 15 operand)
      (((s.store.schedule.drop operand).take 8).map schedEntryBytes).flatten
  | _ => refusedWith .badArgument 1

/-- R176: a read changes nothing. -/
def readTable (args : List Byte) : Request := fun s =>
  match splitFields [1, 1] args with
  | some [selector, operand] => (s, tableAnswer s selector operand)
  | _ => (s, badFit)

/-! ## The runtime records (R177, R200) -/

/-- The presence flags of a record's optional fields, bit 0 for the first. -/
def presence : List Bool → Nat
  | [] => 0
  | b :: rest => (if b then 1 else 0) + 2 * presence rest

/-- R177, PART: the Management Unit record, the fault register, the depth and the overrun count.
Widths DEDUCED, log entry 7. -/
def partBytes (s : State) : List Byte :=
  beBytes 1 (modeCode s.mgmt.mode) ++ beBool s.mgmt.holder.isSome ++ beBytes 2 s.mgmt.dropped
    ++ beBool s.mgmt.droppedNotice ++ maskBytes s.report.faults ++ beBytes 1 s.report.queue.length
    ++ beBytes 1 s.report.overruns

/-- R177, PACING: the anchor as the time since it in µs, rounded down (R1). -/
def pacingBytes (s : State) : List Byte :=
  let p := s.pacing
  beBytes 1 (presence [p.anchor.isSome]) ++ beBytes 1 (pacingStateCode p.state)
    ++ beBytes 1 (haltReasonCode p.haltReason)
    ++ beBytes 4 (if p.anchor.isSome then sinceAnchor s / 25 else 0) ++ beBytes 1 p.index.toNat
    ++ beBytes 4 p.serial.toNat ++ beBytes 1 p.confirm ++ beBytes 1 p.missed
    ++ beBytes 1 p.goodRun ++ beBool p.haltPending ++ beBytes 2 p.period ++ beBytes 1 p.tol
    ++ beBytes 2 p.offset ++ beBytes 2 p.early ++ beBytes 2 p.missedTotal ++ beBytes 2 p.ignored
    ++ beBytes 2 p.cut

/-- R177, PORT: the record of R155 but for the receiver. Widths DEDUCED, log entry 7. -/
def portBytes (s : State) : List Byte :=
  let p := s.port
  beBytes 1 (driveModeCode p.pendingDemand.mode) ++ beBytes 4 p.pendingDemand.target
    ++ beBytes 2 p.pendingDemand.mass ++ beBool p.pendingDemand.arrived ++ beBool p.clampNotice
    ++ beBytes 2 p.linkErrors ++ beBytes 2 p.uplinkSkips ++ transmitterField p.tx.sending
    ++ beBool p.replyOwed

/-- R177, DEMAND. -/
def demandBytes (d : EffDemand) : List Byte :=
  beBytes 1 (driveModeCode d.mode) ++ beBytes 4 d.target ++ beBytes 2 d.mass ++ beBytes 1 d.age
    ++ beBool d.lost ++ beBytes 1 (driveModeCode d.prevMode)

def identityBytes (v : Option Identity) : List Byte :=
  match v with
  | some x => beBytes 2 x.typeCode ++ beBytes 2 x.firmware
  | none => [0, 0, 0, 0]

/-- R177, STATION: the record of R4 but for the ring; the rated speed takes the 4 bytes of a speed (R200).
The width of the counts per revolution, 3 bytes, is that of the fallback field; the latest drive status is
the drive's whole status byte. DEDUCED, log entry 7. -/
def stationBytes (x : StationRt) : List Byte :=
  beBytes 1 (presence [x.speed.isSome, x.status.isSome, x.torque.isSome, x.init.identity.isSome,
      x.init.counts.isSome, x.init.ratedTorque.isSome, x.init.ratedSpeed.isSome])
    ++ beBytes 1 (stationStateCode x.state) ++ beBytes 1 (stationReasonCode x.reason)
    ++ beInt 4 (x.speed.getD 0) ++ beInt 3 x.accel ++ beBytes 1 x.stale ++ beBytes 1 x.overspeed
    ++ beBytes 1 x.plausibility ++ [x.status.getD 0] ++ beInt 3 (x.torque.getD 0)
    ++ identityBytes x.init.identity ++ beBytes 3 (x.init.counts.getD 0)
    ++ beBytes 3 (x.init.ratedTorque.getD 0) ++ beBytes 4 (x.init.ratedSpeed.getD 0)
    ++ beBytes 1 (initMarkCode x.init.mark) ++ beBytes 3 x.torqueLimit
    ++ beBytes 4 x.overspeedLimit ++ beInt 3 x.slewMemory

/-- R177, OUTPUT. -/
def outputBytes (p : SetPoint) (memory : Int) (d : Direct) : List Byte :=
  beInt 3 p.torque ++ beBytes 1 (sourceCode p.source) ++ beBool p.limited ++ beBool p.slewed
    ++ beBytes 4 p.serial.toNat ++ beInt 3 memory ++ beBool d.active ++ beInt 3 d.torque
    ++ beBytes 2 d.remaining ++ beBytes 1 (endCauseCode d.endCause)

/-- R177, GROUP: the record of R42 but for the ring and the per-station fields. -/
def groupBytes (x : GroupRt) : List Byte :=
  beBytes 1 (presence [x.measured.isSome, x.ramped.isSome, x.reference.isSome])
    ++ beBytes 1 (groupStateCode x.state) ++ beBytes 1 (groupReasonCode x.reason) ++ beBytes 1 x.c
    ++ beBytes 1 x.inBand ++ beBytes 2 x.elapsed ++ beBytes 1 x.slipRun ++ beBytes 1 x.recoverRun
    ++ beBytes 2 x.slipCycles ++ beBytes 3 x.aEff ++ beInt 4 (x.measured.getD 0)
    ++ beInt 4 (x.ramped.getD 0) ++ beInt 4 (x.reference.getD 0) ++ beInt 3 x.refAccel
    ++ beBytes 4 x.maxError ++ beBytes 4 x.maxIntegrator ++ beBytes 1 (statusOrCode x)

def memberBytes (x : GroupRt) (i : Fin 4) : List Byte :=
  beInt 4 (x.integrator.get i) ++ beInt 4 (x.error.get i) ++ beInt 3 (x.force.get i)

/-- R177, MEMBERS. -/
def membersBytes (x : GroupRt) : List Byte := (four.map (memberBytes x)).flatten

/-- R177, SEGMENT; the due time of a pending SYNC has a form the manual does not state.
Free value, log entry 6. That the pending SYNC is returned as an optional field: DEDUCED, log entry 39. -/
def segmentBytes (now : Nat) (x : Segment) : List Byte :=
  beBytes 1 (presence [x.pendingSync.isSome]) ++ segStateField x.state
    ++ beBytes 1 (segReasonCode x.reason) ++ beBytes 1 x.bootCount ++ beBytes 1 x.withheld
    ++ beBytes 2 x.stray
    ++ (match x.pendingSync with
        | some p => beBytes 4 (Config.dueTimeField now p.due).toNat
        | none => [0, 0, 0, 0])

/-- R177, SLOT. That the buffer is returned as an optional record, zero when EMPTY: DEDUCED, log entry 39. -/
def slotBytes (x : SlotRt) : List Byte :=
  beBytes 1 (presence [x.buffer.isSome]) ++ beBytes 1 (slotClassCode x.lastClass)
    ++ beBytes 1 x.errors
    ++ (match x.buffer with
        | some m => measureBytes m
        | none => List.replicate 12 0)

/-- R177 -/
def runtimeAnswer (s : State) (selector operand : Nat) : Answer :=
  let i : Fin 4 := Fin.ofNat 4 operand
  let g : Fin 2 := Fin.ofNat 2 operand
  match selector with
  | 0 => readAnswer (decide (operand = 0)) (partBytes s)
  | 1 => readAnswer (decide (operand = 0)) (pacingBytes s)
  | 2 => readAnswer (decide (operand = 0)) (portBytes s)
  | 3 => readAnswer (decide (operand = 0)) (demandBytes s.demand)
  | 4 => readAnswer (inRange 0 3 operand) (stationBytes (s.station i))
  | 5 =>
    readAnswer (inRange 0 3 operand)
      (outputBytes (s.setpoints.get i) (s.station i).slewMemory (s.direct i))
  | 6 => readAnswer (inRange 0 1 operand) (groupBytes (s.group g))
  | 7 => readAnswer (inRange 0 1 operand) (membersBytes (s.group g))
  | 8 => readAnswer (inRange 0 1 operand) (segmentBytes s.now (s.segs.get g))
  | 9 =>
    readAnswer (inRange 0 7 operand)
      (slotBytes (s.slot (slotOfOperand operand).1 (slotOfOperand operand).2))
  | _ => refusedWith .badArgument 1

/-- R177: a read changes nothing. -/
def readRuntime (args : List Byte) : Request := fun s =>
  match splitFields [1, 1] args with
  | some [selector, operand] => (s, runtimeAnswer s selector operand)
  | _ => (s, badFit)

/-! ## READ_EVENTS (R194) and READ_CHECK (R101) -/

/-- R194 -/
def readEvents : Request := fun s =>
  let taken := s.report.queue.take 4
  let left := s.report.queue.drop 4
  (s.setReport { s.report with queue := left },
    doneWith taken.length ((taken.map eventBytes).flatten ++ beBytes 1 left.length))

/-- R101: the check context, as R88 lists it; START_CHECK is no load request (R173), so the offset takes the
3 bytes of a force in N and the band the 4 bytes of a speed (R200). The width of the pattern, 2 bytes, is
that of START_CHECK. DEDUCED, log entry 7. -/
def contextBytes (c : CheckContext) : List Byte :=
  checkStateField c.running ++ beBytes 1 c.group.val ++ beBytes 1 c.station.val
    ++ beBytes 2 c.pattern.toNat ++ beBytes 1 c.length ++ beBytes 1 c.step ++ beBytes 3 c.offset
    ++ beBytes 4 c.band ++ beBytes 1 c.elapsed ++ beBytes 4 c.peak

/-- R101: the last-check record. The code and the width of the result are those of R199's CHECK item; R200
states none. DEDUCED, log entry 36. -/
def lastCheckBytes (c : LastCheck) : List Byte :=
  beBytes 1 (checkResultCode c.result) ++ beBytes 1 (checkReasonCode c.reason)
    ++ beBytes 1 c.group.val ++ beBytes 1 c.station.val ++ beBytes 1 c.length ++ beBytes 1 c.step
    ++ beBytes 4 c.peak ++ beBytes 1 c.cycles

/-- R101: a read changes nothing. -/
def readCheck : Request := fun s =>
  (s, doneWith 0 (contextBytes s.check ++ lastCheckBytes s.lastCheck))

/-! ## The commands -/

/-- READ_TABLE -/
def execReadTable (t : Nat) (tag : Byte) (args : List Byte) (s : State) :
    Host.Outcome State Fault Refusal :=
  .next (takeRequest 0x10 tag (readTable args) (arrive t s))

/-- READ_RUNTIME -/
def execReadRuntime (t : Nat) (tag : Byte) (args : List Byte) (s : State) :
    Host.Outcome State Fault Refusal :=
  .next (takeRequest 0x11 tag (readRuntime args) (arrive t s))

/-- READ_EVENTS -/
def execReadEvents (t : Nat) (tag : Byte) (args : List Byte) (s : State) :
    Host.Outcome State Fault Refusal :=
  .next (takeRequest 0x12 tag (noArgs readEvents args) (arrive t s))

/-- READ_CHECK -/
def execReadCheck (t : Nat) (tag : Byte) (args : List Byte) (s : State) :
    Host.Outcome State Fault Refusal :=
  .next (takeRequest 0x13 tag (noArgs readCheck args) (arrive t s))

end Sys2Proof.Machine
end

