-- ==== Sys2Proof/Machine/Link.lean ====
section
/-! DEFINITION. The Cell Port's receiver (R156 to R162): the commands of the cell link that are not
one known request, and the hard reset (R167). -/

namespace Sys2Proof.Machine

/-! ## HARD_RESET -/

/-- A segment after a hard reset; what a drive does on the line is not the part's state to reset.
DESIGN CHOICE, log entry 5. -/
def resetSegment (x : Segment) : Segment :=
  { Segment.reset with lineBusy := x.lineBusy, lastEnd := x.lastEnd }

/-- R167: every piece of the part's state at its hard reset value. The clock, the queue of commands
and the count of free choices are the model's own and stay; the wait for an idle line begins now.
DESIGN CHOICE, log entries 20 and 30. -/
def hardReset (s : State) : State :=
  { State.reset with
    now := s.now, pending := s.pending, free := s.free,
    port := { Port.reset with quietSince := s.now },
    segs := Two.tabulate fun g => resetSegment (s.segs.get g) }

/-! ## DEMAND (R160) -/

/-- R160: the target speed in its range. -/
def clampSpeed (z : Int) : Nat := (clampTo 0 90000 z).toNat

/-- R160: the test mass in its range. -/
def clampMass (n : Nat) : Nat := max 500 (min 6000 n)

/-- R160: whether a field is changed by its clamp. -/
def demandClamped (speed : Int) (mass : Nat) : Bool :=
  decide ((clampSpeed speed : Int) ≠ speed) || decide (clampMass mass ≠ mass)

/-- R160 -/
def takeDemand (mode : DriveMode) (speed : Int) (mass : Nat) (s : State) : State :=
  s.setPort { s.port with
    pendingDemand :=
      { mode := mode, target := clampSpeed speed, mass := clampMass mass, arrived := true },
    clampNotice := s.port.clampNotice || demandClamped speed mass }

/-! ## The link check (R157, R158) -/

/-- R157: one link check error. -/
def linkError (s : State) : State :=
  latch .linkCheck (s.setPort { s.port with linkErrors := bump 65535 s.port.linkErrors })

/-- R156: the receiver enters `rx`, the burst in progress gone. -/
def receiver (rx : RxState) (s : State) : State := s.setPort { s.port with rx := rx, burst := [] }

/-- R156: the line has been idle for 1 µs. -/
def lineFallsIdle (s : State) : State :=
  match s.port.rx with
  | .idleWait | .ready => receiver .ready s
  | .inFrame | .discard => linkError (receiver .ready s)

/-! ## Requests by their code (R162, R171, R198) -/

/-- R198: the request a code names; UNKNOWN for a code that names none. -/
def requestBody (code : Byte) (args : List Byte) : Request :=
  match code.toNat with
  | 0x01 => loadCell args
  | 0x02 => loadRoadload args
  | 0x03 => loadStation args
  | 0x04 => loadGroup args
  | 0x05 => loadSlot args
  | 0x06 => loadSchedule args
  | 0x10 => readTable args
  | 0x11 => readRuntime args
  | 0x12 => noArgs readEvents args
  | 0x13 => noArgs readCheck args
  | 0x20 => noArgs enterOperate args
  | 0x21 => noArgs enterConfig args
  | 0x22 => noArgs restart args
  | 0x30 => noArgs haltRequest args
  | 0x31 => noArgs stopRequest args
  | 0x40 => engage args
  | 0x41 => release args
  | 0x50 => startCheck args
  | 0x51 => noArgs abortRequest args
  | 0x60 => directTorque args
  | 0x70 => clearFaults args
  | _ => unknownRequest

/-! ## A byte on the cell link (R156) -/

/-- R157, R159, R160, R162: an arrived frame is discarded or handed to its owner. -/
def takeFrame (f : Frame) (s : State) : State :=
  match f with
  | .start index => acceptStart index s
  | .demand mode speed mass => takeDemand mode speed mass s
  | .request code tag args => takeRequest code tag (requestBody code args) s
  | .bad => linkError s

/-- R156: whether these bytes after the delimiter run through the last CRC byte. -/
def frameComplete (burst : List Byte) : Bool :=
  match burst with
  | _ :: length :: rest => decide (rest.length = length.toNat + 2)
  | _ => false

/-- R156: whether a length byte has just arrived that no frame has. -/
def lengthTooLong (burst : List Byte) : Bool :=
  match burst with
  | [_, length] => decide (200 < length.toNat)
  | _ => false

/-- R156, IN_FRAME: one more byte of the frame. -/
def frameByte (b : Byte) (s : State) : State :=
  let burst := s.port.burst ++ [b]
  if lengthTooLong burst then receiver .discard s
  else if frameComplete burst then takeFrame (judge burst) (frameArrived s)
  else s.setPort { s.port with burst := burst }

/-- R156: one byte on the cell link. -/
def receiveByte (b : Byte) (s : State) : State :=
  let s := s.setPort { s.port with quietSince := s.now }
  match s.port.rx with
  | .idleWait | .discard => s
  | .ready => receiver (if b = startDelimiter then .inFrame else .discard) s
  | .inFrame => frameByte b s

/-! ## The commands -/

/-- HARD_RESET -/
def execHardReset (t : Nat) (s : State) : Host.Outcome State Fault Refusal :=
  .next (hardReset (advance t s))

/-- DEMAND -/
def execDemand (t : Nat) (mode : DriveMode) (speed : Int) (mass : Nat) (s : State) :
    Host.Outcome State Fault Refusal :=
  .next (takeDemand mode speed mass (arrive t s))

/-- LINK_CHECK_DISCARD -/
def execLinkCheckDiscard (t : Nat) (s : State) : Host.Outcome State Fault Refusal :=
  .next (linkError (arrive t s))

/-- LINE_IDLE. DESIGN CHOICE, log entry 22. -/
def execLineIdle (t : Nat) (s : State) : Host.Outcome State Fault Refusal :=
  .next (lineFallsIdle (advance t s))

/-- REQUEST_DROPPED. DESIGN CHOICE, log entry 16. -/
def execRequestDropped (t : Nat) (s : State) : Host.Outcome State Fault Refusal :=
  .next (if s.mgmt.holder.isSome then dropRequest (arrive t s) else arrive t s)

/-- UNKNOWN; the arguments are not judged. -/
def execUnknown (t : Nat) (code tag : Byte) (_args : List Byte) (s : State) :
    Host.Outcome State Fault Refusal :=
  .next (takeRequest code tag unknownRequest (arrive t s))

/-- R165: the last CRC byte of the UPLINK on the line has left. -/
def transmitEnds (s : State) : State :=
  if s.port.tx.sending then
    sendOwed (s.setPort { s.port with tx := { s.port.tx with sending := false, frame := [] } })
  else s

/-- TRANSMIT_DONE. DESIGN CHOICE, log entry 22. -/
def execTransmitDone (t : Nat) (s : State) : Host.Outcome State Fault Refusal :=
  .next (transmitEnds (advance t s))

/-- CELL_LINK_BYTE_RECEIVED -/
def execCellLinkByteReceived (t : Nat) (byte : Byte) (s : State) :
    Host.Outcome State Fault Refusal :=
  .next (receiveByte byte (advance t s))

end Sys2Proof.Machine
end

