-- ==== Sys2Proof/Machine/Dispatch.lean ====
section
/-! DEFINITION. The meaning of every command, one arm per row of spec/opcode_table.json. -/

namespace Sys2Proof.Machine

def exec (i : Instr) (s : State) : Host.Outcome State Fault Refusal :=
  match i with
  | .hardReset t => Sys2Proof.Machine.execHardReset t s
  | .start t index => Sys2Proof.Machine.execStart t index s
  | .demand t mode speed mass => Sys2Proof.Machine.execDemand t mode speed mass s
  | .linkCheckDiscard t => Sys2Proof.Machine.execLinkCheckDiscard t s
  | .lineIdle t => Sys2Proof.Machine.execLineIdle t s
  | .requestDropped t => Sys2Proof.Machine.execRequestDropped t s
  | .unknown t code tag args => Sys2Proof.Machine.execUnknown t code tag args s
  | .loadCell t tag args => Sys2Proof.Machine.execLoadCell t tag args s
  | .loadStation t tag args => Sys2Proof.Machine.execLoadStation t tag args s
  | .loadRoadload t tag args => Sys2Proof.Machine.execLoadRoadload t tag args s
  | .loadGroup t tag args => Sys2Proof.Machine.execLoadGroup t tag args s
  | .loadSlot t tag args => Sys2Proof.Machine.execLoadSlot t tag args s
  | .loadSchedule t tag args => Sys2Proof.Machine.execLoadSchedule t tag args s
  | .readTable t tag args => Sys2Proof.Machine.execReadTable t tag args s
  | .readRuntime t tag args => Sys2Proof.Machine.execReadRuntime t tag args s
  | .readEvents t tag args => Sys2Proof.Machine.execReadEvents t tag args s
  | .readCheck t tag args => Sys2Proof.Machine.execReadCheck t tag args s
  | .enterOperate t tag args => Sys2Proof.Machine.execEnterOperate t tag args s
  | .enterConfig t tag args => Sys2Proof.Machine.execEnterConfig t tag args s
  | .restart t tag args => Sys2Proof.Machine.execRestart t tag args s
  | .halt t tag args => Sys2Proof.Machine.execHalt t tag args s
  | .stop t tag args => Sys2Proof.Machine.execStop t tag args s
  | .engage t tag args => Sys2Proof.Machine.execEngage t tag args s
  | .release t tag args => Sys2Proof.Machine.execRelease t tag args s
  | .startCheck t tag args => Sys2Proof.Machine.execStartCheck t tag args s
  | .abortCheck t tag args => Sys2Proof.Machine.execAbortCheck t tag args s
  | .directTorque t tag args => Sys2Proof.Machine.execDirectTorque t tag args s
  | .clearFaults t tag args => Sys2Proof.Machine.execClearFaults t tag args s
  | .silence t => Sys2Proof.Machine.execSilence t s
  | .missedCycle t => Sys2Proof.Machine.execMissedCycle t s
  | .localCycleBegin t => Sys2Proof.Machine.execLocalCycleBegin t s
  | .computationPoint t => Sys2Proof.Machine.execComputationPoint t s
  | .syncDue t seg => Sys2Proof.Machine.execSyncDue t seg s
  | .windowOpen t seg slot => Sys2Proof.Machine.execWindowOpen t seg slot s
  | .windowClose t seg slot => Sys2Proof.Machine.execWindowClose t seg slot s
  | .replyStart t seg => Sys2Proof.Machine.execReplyStart t seg s
  | .replyComplete t seg chars => Sys2Proof.Machine.execReplyComplete t seg chars s
  | .transmitDone t => Sys2Proof.Machine.execTransmitDone t s
  | .cellLinkByteReceived t byte => Sys2Proof.Machine.execCellLinkByteReceived t byte s

end Sys2Proof.Machine
end

