-- ==== Sys2Proof/Machine/Timer.lean ====
section
/-! DEFINITION. What the part does by itself while no command waits: at each REFCLK period it finds the
moment it has set that is due, and otherwise lets one period pass (R1). DESIGN CHOICE: of moments that
are due together the one listed first is taken first. -/

namespace Sys2Proof.Machine

/-- R163, R195: an UPLINK occupies the line for 0.5 µs a byte. -/
def transmitDue (s : State) : Bool :=
  s.port.tx.sending && decide (25 * s.port.tx.frame.length ≤ 2 * (s.now - s.port.tx.since))

/-- R156: 1 µs since the last byte, where the receiver waits for it or is in a burst. A byte begun within that
1 µs counts only once its command waits in the queue. DESIGN CHOICE, log entry 38. -/
def idleDue (s : State) : Bool :=
  decide (s.port.rx ≠ .ready) && decide (s.port.quietSince + us 1 ≤ s.now)

/-- R136: a window whose close has come. -/
def closeDue (s : State) (gk : Seg × Fin 4) : Bool :=
  match (s.slot gk.1 gk.2).window with
  | some w => decide (w.closes ≤ s.now)
  | none => false

/-- R134: a window whose opening has come and that is not open yet. -/
def openDue (s : State) (gk : Seg × Fin 4) : Bool :=
  match (s.slot gk.1 gk.2).window with
  | some w => !w.isOpen && decide (w.opens ≤ s.now)
  | none => false

/-- R131: a SYNC that has fallen due. -/
def syncIsDue (s : State) (g : Seg) : Bool :=
  match (s.seg g).pendingSync with
  | some p => decide (p.due ≤ s.now)
  | none => false

/-- R106: the computation point. -/
def pointDue (s : State) : Bool :=
  match s.pacing.cpDue with
  | some due => decide (due ≤ s.now)
  | none => false

/-- R112, R115, R117, R123: the deadline of the pacing state. -/
def deadlineDue (s : State) : Option Instr :=
  match s.pacing.state with
  | .listen => none
  | .acquire | .confirm => if silenceDue s ≤ s.now then some (.silence s.now) else none
  | .tracking | .freewheel => if missDue s ≤ s.now then some (.missedCycle s.now) else none
  | .halted => if s.pacing.localDue ≤ s.now then some (.localCycleBegin s.now) else none

/-- The first of the part's own events that is due. DESIGN CHOICE, log entry 2. -/
def nextDue (s : State) : Option Instr :=
  if transmitDue s then some (.transmitDone s.now)
  else if idleDue s then some (.lineIdle s.now)
  else
    match allSlots.find? (closeDue s) with
    | some gk => some (.windowClose s.now gk.1 gk.2)
    | none =>
      match allSlots.find? (openDue s) with
      | some gk => some (.windowOpen s.now gk.1 gk.2)
      | none =>
        match [Seg.a, Seg.b].find? (syncIsDue s) with
        | some g => some (.syncDue s.now g)
        | none => if pointDue s then some (.computationPoint s.now) else deadlineDue s

/-- With no command waiting: the event that is due is queued, or one period passes. -/
def idle (s : State) : State :=
  match nextDue s with
  | some c => s.setPending [c]
  | none => s.setNow (s.now + 1)

end Sys2Proof.Machine
end

