-- ==== Sys2Proof/Safety.lean ====
section
/-! DEFINITION. What a sound state of the part is: the invariants the manual claims of it, the ranges its
configuration records keep, the consistency OPERATE asks of the store (R178), the shape of a request's
answer, the records as the fields of a read, the checks of a load by their numbers, and what the segments
and the stations do, in the rules' own terms. Statements are made in these terms. -/

namespace Sys2Proof.Machine

/-! ## Invariants -/

/-- R193: at most 32 records, numbered consecutively, modulo 65,536, up to the next sequence. -/
def QueueInOrder (s : State) : Prop :=
  s.report.queue.length ≤ 32 ∧
    ∀ j e, s.report.queue[j]? = some e →
      e.sequence + BitVec.ofNat 16 (s.report.queue.length - j) = s.report.nextSequence

/-- R51 to R53, R55: the authority, the integrators and the forces of a group. -/
structure GroupBounded (r : GroupRec) (x : GroupRt) : Prop where
  authority : x.aEff ≤ r.authority
  force : ∀ i, (x.force.get i).natAbs ≤ x.aEff
  integrator : ∀ i, (x.integrator.get i).natAbs ≤ r.integratorClamp * 1000
  resting : x.state = .opened ∨ x.state = .broken →
    x.aEff = 0 ∧ ∀ i, x.integrator.get i = 0 ∧ x.force.get i = 0

def GroupsBounded (s : State) : Prop := ∀ g, GroupBounded (s.store.groups.get g) (s.group g)

/-- R70: an entry whose source is SAFE holds torque 0, with LIMITED and SLEWED clear. -/
def SafeEntries (s : State) : Prop :=
  ∀ i, (s.setpoints.get i).source = .safe →
    (s.setpoints.get i).torque = 0 ∧ (s.setpoints.get i).limited = false
      ∧ (s.setpoints.get i).slewed = false

/-- What holds between mode, pacing, groups, DIRECTs and the coupling check (R44, R62, R80, R91, R93,
R179, R180). -/
structure RunConsistent (s : State) : Prop where
  /-- In CONFIG nothing drives a roller. -/
  config : s.mgmt.mode = .config →
    (∀ g, engaged (s.group g) = false) ∧ (∀ i, (s.direct i).active = false) ∧
      ∀ i, (s.setpoints.get i).source = .safe
  engagedRuns : ∀ g, engaged (s.group g) = true →
    running s = true ∧ ∀ i, isMember (s.store.groups.get g) i = true →
      liveOrStale (s.station i) = true ∧ (s.direct i).active = false
  directRuns : ∀ i, (s.direct i).active = true →
    running s = true ∧ liveOrStale (s.station i) = true ∧ 0 < (s.direct i).remaining
  checkLocked : s.check.running = true →
    (s.group s.check.group).state = .locked ∧ s.check.elapsed ≤ s.check.length * s.check.step

/-- R41: a station belongs to at most one group. R129: a station is bound to at most one enabled slot.
R3, R4: a station is ABSENT when its record is not present, and only then. R186: sixteen schedule
entries. -/
structure StoreConsistent (s : State) : Prop where
  oneGroup : ∀ i, isMember (s.store.groups.get 0) i = true →
    isMember (s.store.groups.get 1) i = false
  oneSlot : ∀ g k g' k', (s.slotRec g k).enabled = true → (s.slotRec g' k').enabled = true →
    (s.slotRec g k).station = (s.slotRec g' k').station → g = g' ∧ k = k'
  absent : ∀ i, (s.station i).state = .absent ↔ (s.store.stations.get i).present = false
  schedule : s.store.schedule.length = 16

/-- R7: every station's effective limits are those its record and its init values give. -/
def LimitsDerived (s : State) : Prop :=
  ∀ i, (s.station i).torqueLimit = torqueLimitOf (s.store.stations.get i) (s.station i).init ∧
    (s.station i).overspeedLimit = overspeedLimitOf (s.store.stations.get i) (s.station i).init

/-- A speed the part can hold (R10, R46, R47). -/
def speedFits (z : Int) : Prop := z.natAbs ≤ 90000000

/-- A ring of up to eight speeds (R17, R48). -/
def ringFits (ring : List Int) : Prop := ring.length ≤ 8 ∧ ∀ z ∈ ring, speedFits z

/-- R23, R155: the ranges of a demand. -/
def demandFits (target mass : Nat) : Prop := target ≤ 90000 ∧ 500 ≤ mass ∧ mass ≤ 6000

/-- R10, R17, R18, R46 to R48, R160: the ranges of speeds, accelerations and demands. -/
structure SpeedsBounded (s : State) : Prop where
  speed : ∀ i z, (s.station i).speed = some z → speedFits z
  ring : ∀ i, ringFits (s.station i).ring
  accel : ∀ i, (s.station i).accel.natAbs ≤ 50000
  measured : ∀ g z, (s.group g).measured = some z → speedFits z
  ramped : ∀ g z, (s.group g).ramped = some z → speedFits z
  reference : ∀ g z, (s.group g).reference = some z → speedFits z
  groupRing : ∀ g, ringFits (s.group g).ring
  refAccel : ∀ g, (s.group g).refAccel.natAbs ≤ 50000
  pending : demandFits s.port.pendingDemand.target s.port.pendingDemand.mass
  effective : demandFits s.demand.target s.demand.mass

/-- The saturating counters of the part (R4, R23, R42, R103, R127, R128, R155, R168, R184) and the boot
cycle count (R127, R145). -/
structure CountersSaturate (s : State) : Prop where
  port : s.port.linkErrors ≤ 65535 ∧ s.port.uplinkSkips ≤ 65535
  pacing : s.pacing.early ≤ 65535 ∧ s.pacing.missedTotal ≤ 65535 ∧ s.pacing.ignored ≤ 65535 ∧
    s.pacing.cut ≤ 65535
  segment : ∀ g, (s.segs.get g).stray ≤ 65535 ∧ (s.segs.get g).bootCount ≤ 64 ∧
    ((s.segs.get g).state = .boot → (s.segs.get g).bootCount < 64) ∧
    ∀ k, ((s.segs.get g).slots.get k).errors ≤ 255
  station : ∀ i, (s.station i).plausibility ≤ 255
  demand : s.demand.age ≤ 255
  group : ∀ g, (s.group g).inBand ≤ 255
  mgmt : s.mgmt.dropped ≤ 65535
  report : s.report.overruns ≤ 255

/-- A sound state. -/
structure Safe (s : State) : Prop where
  queue : QueueInOrder s
  groups : GroupsBounded s
  entries : SafeEntries s
  run : RunConsistent s
  store : StoreConsistent s
  limits : LimitsDerived s
  speeds : SpeedsBounded s
  counters : CountersSaturate s

/-- Commands taken one after another, up to the first that stops. -/
def runAll : List Instr → State → Host.Outcome State Fault Refusal
  | [], s => .next s
  | c :: rest, s =>
    match exec c s with
    | .next s' => runAll rest s'
    | .fault r => .fault r
    | .refused r => .refused r

/-! ## Answers -/

/-- The outcome of a request taken with an empty holder: `s` is the state at its taking, `s'` the one
its execution leaves, and the reply carries the serial of the last cycle-begin at the taking (R168). -/
def answered (code tag : Byte) (a : Answer) (s s' : State) : Host.Outcome State Fault Refusal :=
  .next (placeReply { tag := tag, code := code, answer := a, serial := s.pacing.serial } s')

/-- Records written one after another, each with its own sequence (R193). -/
def writeEvents (bodies : List EventBody) (s : State) : State :=
  bodies.foldl (fun s b => writeEvent b s) s

/-- The DIRECT END events of the active DIRECTs, lowest station first (R83). -/
def directEnds (s : State) : List EventBody :=
  four.filterMap fun i => if (s.direct i).active then some (.direct i false) else none

/-- The CHECK event of a check that ends ABORTED, where one runs (R97, R99). -/
def checkAborts (reason : CheckReason) (s : State) : List EventBody :=
  if s.check.running then [.check s.check.group (.aborted reason) s.check.peak] else []

/-- The GROUP events of the groups of a kind, group 0 first, with their greatest |e| (R61). -/
def groupEvents (of : GroupRt → Bool) (reason : GroupReason) (s : State) : List EventBody :=
  ([0, 1] : List (Fin 2)).filterMap fun g =>
    if of (s.group g) then some (.group g reason (s.group g).maxError) else none

/-- The last-check record after a running check has ended ABORTED (R97). -/
def abortedRecord (reason : CheckReason) (s : State) : LastCheck :=
  if s.check.running then
    { result := .aborted, reason := reason, group := s.check.group, station := s.check.station,
      length := s.check.length, step := s.check.step, peak := s.check.peak,
      cycles := s.check.elapsed }
  else s.lastCheck

/-- A DIRECT record that a cause has ended, where it was active (R83). -/
def directEnded (cause : EndCause) (d : Direct) : Direct :=
  if d.active then { d with active := false, remaining := 0, endCause := cause } else d

/-- R198: the argument bytes a known code asks for; LOAD_ROADLOAD's count is that of its rows. -/
def argumentsFit (code : Byte) (args : List Byte) : Bool :=
  match code.toNat with
  | 0x01 => decide (args.length = 19)
  | 0x02 => decide (1 ≤ args.length) && decide (args.length = 1 + 5 * (args.headD 0).toNat + 3)
  | 0x03 => decide (args.length = 38)
  | 0x04 => decide (args.length = 36)
  | 0x05 => decide (args.length = 9)
  | 0x06 => decide (args.length = 7)
  | 0x10 => decide (args.length = 2)
  | 0x11 => decide (args.length = 2)
  | 0x12 => decide (args.length = 0)
  | 0x13 => decide (args.length = 0)
  | 0x20 => decide (args.length = 0)
  | 0x21 => decide (args.length = 0)
  | 0x22 => decide (args.length = 0)
  | 0x30 => decide (args.length = 0)
  | 0x31 => decide (args.length = 0)
  | 0x40 => decide (args.length = 1)
  | 0x41 => decide (args.length = 1)
  | 0x50 => decide (args.length = 11)
  | 0x51 => decide (args.length = 0)
  | 0x60 => decide (args.length = 6)
  | 0x70 => decide (args.length = 3)
  | _ => true

/-- R199: the value bytes of an item, by its kind. -/
def itemLength : ItemKind → Nat
  | .null => 0
  | .stationMotion => 8
  | .stationDrive => 7
  | .group => 13
  | .slot => 13
  | .counters => 10
  | .check => 6

/-- R187: whether an entry gives the item of a position at a cycle index. -/
def entryMatches (index : BitVec 6) (position : Nat) (e : SchedEntry) : Prop :=
  e.enabled = true ∧ e.position = position ∧ e.offset = index.toNat % e.repetition

/-- R105, R107: the pacing record after a cycle-begin at `at_`, by the cell record `c`. -/
def begun (at_ : Nat) (index : BitVec 6) (c : CellRec) (p : Pacing) : Pacing :=
  { p with
    anchor := some at_, index := index, serial := p.serial + 1, period := c.period, tol := c.tol,
    offset := c.computeOffset, cpDue := some (at_ + 25 * c.computeOffset),
    localDue := at_ + 25 * c.period,
    cut := match p.cpDue with
      | some _ => min (p.cut + 1) 65535
      | none => p.cut }

/-- R2: `z` is `n / d` rounded to nearest, halves away from zero. -/
def RoundsTo (n : Int) (d : Nat) (z : Int) : Prop :=
  2 * (z * d - n).natAbs ≤ d ∧ (2 * (z * d - n).natAbs = d → n.natAbs < (z * d).natAbs)

/-- The greatest of four magnitudes (R54). -/
def greatest (f : Fin 4 → Int) : Nat := max (max (f 0).natAbs (f 1).natAbs) (max (f 2).natAbs (f 3).natAbs)

/-- R50: a corrected member of an engaged group; the leader of a LEADER group outside SPEED is none. -/
def corrected (r : GroupRec) (mode : DriveMode) (i : Fin 4) : Prop :=
  isMember r i = true ∧ ¬ (r.kind = .leader ∧ mode ≠ .speed ∧ r.leader = i)

/-- R57 to R59: the state and the reason a group leaves its lock stage with, from its record, its runtime
before the stage, the capture count after R51, the greatest |e| and the greatest |I|. -/
def lockOutcome (r : GroupRec) (x : GroupRt) (c e m : Nat) : GroupState × GroupReason :=
  match x.state with
  | .capturing =>
    if c = r.captureCycles ∧ r.breakBand < e then (.broken, .overBreak)
    else if c = r.captureCycles ∧
        r.captureConfirm ≤ (if e ≤ r.captureBand then min (x.inBand + 1) 255 else 0) then
      (.locked, .captured)
    else if x.elapsed + 1 = r.captureCycles + r.captureTimeout then (.broken, .captureTimeout)
    else (.capturing, x.reason)
  | .locked =>
    if r.breakBand < e then (.broken, .overBreak)
    else if (r.slipBand < e ∨ r.driftLimit * 1000 ≤ m) ∧ r.slipDebounce ≤ x.slipRun + 1 then
      (.slipping, .slip)
    else (.locked, x.reason)
  | .slipping =>
    if r.breakBand < e then (.broken, .overBreak)
    else if e ≤ r.slipBand ∧ m < r.driftLimit * 1000 ∧ r.recoverCount ≤ x.recoverRun + 1 then
      (.locked, .recovered)
    else if x.slipCycles + 1 = r.breakCount then (.broken, .slipTimeout)
    else (.slipping, x.reason)
  | .opened => (.opened, x.reason)
  | .broken => (.broken, x.reason)

/-! ## Bytes -/

/-- R195: fields as bytes, each in its width, the most significant byte first, a negative value in two's
complement. -/
def packed (fields : List (Nat × Int)) : List Byte :=
  fields.flatMap fun f => (List.range f.1).map fun j => BitVec.ofInt 8 (f.2 / 256 ^ (f.1 - 1 - j))

/-- The code of a value in a table that lists its codes from 0. -/
def codeIn {α : Type} [DecidableEq α] (order : List α) (x : α) : Nat := order.idxOf x

/-- R199: the pacing states in the order of their codes. -/
def pacingOrder : List PacingState := [.listen, .acquire, .confirm, .tracking, .freewheel, .halted]

/-- R199: the group states in the order of their codes. -/
def groupOrder : List GroupState := [.opened, .capturing, .locked, .slipping, .broken]

/-- R199: the station states in the order of their codes. -/
def stationOrder : List StationState := [.absent, .waiting, .live, .stale, .faulted]

/-- R199: the slot classes in the order of their codes. -/
def classOrder : List SlotClass := [.none, .good, .overrun, .check, .address, .kind]

/-- R196: the sources in the order of their codes. -/
def sourceOrder : List Source := [.safe, .direct, .computed]

/-- R160: the drive modes in the order of their codes. -/
def driveOrder : List DriveMode := [.coast, .road, .speed]

/-- R200: the station reasons in the order of their codes. -/
def stationReasonOrder : List StationReason :=
  [.none, .segmentLost, .noInit, .badInit, .driveFault, .noData, .overspeed, .firstSample]

/-- R200: the init marks in the order of their codes. -/
def markOrder : List InitMark := [.none, .noInit, .badInit]

/-- R200: the group reasons in the order of their codes. -/
def groupReasonOrder : List GroupReason :=
  [.none, .engage, .captured, .slip, .recovered, .overBreak, .captureTimeout, .slipTimeout,
    .memberFault, .referenceChanged, .release, .halt, .config]

/-- R200: the segment reasons in the order of their codes. -/
def segReasonOrder : List SegReason :=
  [.none, .bootStarted, .bootSkipped, .bootComplete, .bootPartial, .bootFailed, .halt, .jammed,
    .jamCleared]

/-- R200: the DIRECT end causes in the order of their codes. -/
def endCauseOrder : List EndCause :=
  [.none, .expired, .cancelled, .replaced, .stationLost, .halt, .restart]

/-- R200: the last-check reasons in the order of their codes. -/
def checkReasonOrder : List CheckReason :=
  [.none, .completed, .capturing, .slipping, .broken, .abortRequest, .release, .halt, .restart]

/-- The last-check results in the order R199 gives the CHECK item; the model's choice, log entry 36. -/
def checkResultOrder : List CheckResult := [.none, .pass, .fail, .aborted]

/-- R200: the halt reasons have the codes of the PACING reasons. -/
def haltCode : HaltReason → Int
  | .none => 0
  | .cellSilent => 8
  | .haltRequest => 9
  | .stopRequest => 10

/-- R199, R186: the item kinds in the order of their codes. -/
def itemOrder : List ItemKind :=
  [.null, .stationMotion, .stationDrive, .group, .slot, .counters, .check]

/-- R200: the byte of presence flags, bit 0 for the first optional field. -/
def present (flags : List Bool) : Int := (flags.zipIdx.map fun f => if f.1 then 2 ^ f.2 else 0).sum

/-! ## The configuration records as fields (R176, R198) -/

/-- R174 -/
def cellFields (c : CellRec) : List (Nat × Int) :=
  [(2, c.period), (1, c.tol), (1, c.missedLimit), (1, c.rejoinCount), (2, c.delay.x0),
    (2, c.delay.x1), (2, c.computeOffset), (1, c.demandHold), (1, c.jamLimit),
    (1, c.bootSkip.x0.toNat), (1, c.bootSkip.x1.toNat), (1, c.reportWidth), (3, c.attention.toNat)]

/-- R30 -/
def rowFields (r : RoadRow) : List (Nat × Int) := [(3, r.speed), (2, r.force)]

/-- R3 -/
def stationFields (r : StationRec) : List (Nat × Int) :=
  [(1, r.present.toNat), (3, r.circumference), (3, r.radius),
    (1, if r.direction = .plus then 0x01 else 0xFF), (2, r.share), (2, r.mechMass),
    (3, r.torqueLimit), (3, r.slew), (4, r.overspeed), (1, r.overspeedDebounce), (4, r.maxStep),
    (1, r.holdLimit), (1, r.accelWindow), (3, r.fallbackCounts), (3, r.fallbackTorque),
    (2, r.fallbackSpeed)]

/-- R40 -/
def groupFields (r : GroupRec) : List (Nat × Int) :=
  [(1, r.members.toNat), (1, if r.kind = .mean then 0 else 1), (1, r.leader.val), (2, r.kp),
    (2, r.ki), (3, r.integratorClamp), (2, r.authority), (1, r.captureCycles),
    (1, r.captureConfirm), (2, r.captureTimeout), (3, r.captureBand), (3, r.slipBand),
    (3, r.breakBand), (1, r.slipDebounce), (1, r.recoverCount), (2, r.breakCount), (3, r.driftLimit),
    (2, r.accelLimit), (1, r.accelWindow)]

/-- R128 -/
def slotFields (r : SlotRec) : List (Nat × Int) :=
  [(1, r.enabled.toNat), (1, r.station.val), (1, r.address), (2, r.earliest), (2, r.close)]

/-- R186 -/
def entryFields (e : SchedEntry) : List (Nat × Int) :=
  [(1, e.enabled.toNat), (1, codeIn itemOrder e.kind), (1, e.operand), (1, e.position),
    (1, e.repetition), (1, e.offset)]

/-- R176, R200: what READ_TABLE returns for a selector and an operand in its range. -/
def tableFields (x : Store) (selector operand : Nat) : List (Nat × Int) :=
  match selector with
  | 0 => cellFields x.cell
  | 1 =>
    [(1, (x.road.rows.length : Int)), (3, (x.road.band : Int))]
      ++ ((x.road.rows.drop (operand - 1)).take 8).flatMap rowFields
  | 2 => stationFields (x.stations.get (Fin.ofNat 4 operand))
  | 3 => groupFields (x.groups.get (Fin.ofNat 2 operand))
  | 4 => slotFields ((x.slots.get (Fin.ofNat 2 (operand / 4))).get (Fin.ofNat 4 operand))
  | _ => ((x.schedule.drop operand).take 8).flatMap entryFields

/-! ## The runtime records as fields (R177, R200; widths the manual leaves open: log entries 6 and 7) -/

/-- R168, R184 -/
def partFields (s : State) : List (Nat × Int) :=
  [(1, if s.mgmt.mode = .config then 0 else 1), (1, s.mgmt.holder.isSome.toNat),
    (2, s.mgmt.dropped), (1, s.mgmt.droppedNotice.toNat), (3, s.report.faults.toNat),
    (1, s.report.queue.length), (1, s.report.overruns)]

/-- R103, the anchor as the time since it in µs, rounded down (R1). -/
def pacingFields (now : Nat) (p : Pacing) : List (Nat × Int) :=
  [(1, present [p.anchor.isSome]), (1, codeIn pacingOrder p.state), (1, haltCode p.haltReason),
    (4, match p.anchor with
      | some a => (((now - a) * 40 / 1000 : Nat) : Int)
      | none => 0),
    (1, p.index.toNat), (4, p.serial.toNat), (1, p.confirm), (1, p.missed), (1, p.goodRun),
    (1, p.haltPending.toNat), (2, p.period), (1, p.tol), (2, p.offset), (2, p.early),
    (2, p.missedTotal), (2, p.ignored), (2, p.cut)]

/-- R155 -/
def portFields (p : Port) : List (Nat × Int) :=
  [(1, codeIn driveOrder p.pendingDemand.mode), (4, p.pendingDemand.target),
    (2, p.pendingDemand.mass), (1, p.pendingDemand.arrived.toNat), (1, p.clampNotice.toNat),
    (2, p.linkErrors), (2, p.uplinkSkips), (1, (Config.transmitterCode p.tx.sending.toNat).toNat),
    (1, p.replyOwed.toNat)]

/-- R23 -/
def demandFields (d : EffDemand) : List (Nat × Int) :=
  [(1, codeIn driveOrder d.mode), (4, d.target), (2, d.mass), (1, d.age), (1, d.lost.toNat),
    (1, codeIn driveOrder d.prevMode)]

/-- R4, but for the ring. -/
def stationRtFields (x : StationRt) : List (Nat × Int) :=
  [(1, present [x.speed.isSome, x.status.isSome, x.torque.isSome, x.init.identity.isSome,
      x.init.counts.isSome, x.init.ratedTorque.isSome, x.init.ratedSpeed.isSome]),
    (1, codeIn stationOrder x.state), (1, codeIn stationReasonOrder x.reason), (4, x.speed.getD 0),
    (3, x.accel), (1, x.stale), (1, x.overspeed), (1, x.plausibility), (1, (x.status.getD 0).toNat),
    (3, x.torque.getD 0), (2, (x.init.identity.map Identity.typeCode).getD 0),
    (2, (x.init.identity.map Identity.firmware).getD 0), (3, x.init.counts.getD 0),
    (3, x.init.ratedTorque.getD 0), (4, x.init.ratedSpeed.getD 0), (1, codeIn markOrder x.init.mark),
    (3, x.torqueLimit), (4, x.overspeedLimit), (3, x.slewMemory)]

/-- R70, R79 -/
def outputFields (p : SetPoint) (memory : Int) (d : Direct) : List (Nat × Int) :=
  [(3, p.torque), (1, codeIn sourceOrder p.source), (1, p.limited.toNat), (1, p.slewed.toNat),
    (4, p.serial.toNat), (3, memory), (1, d.active.toNat), (3, d.torque), (2, d.remaining),
    (1, codeIn endCauseOrder d.endCause)]

/-- R42, but for the ring and the fields per station. -/
def groupRtFields (x : GroupRt) : List (Nat × Int) :=
  [(1, present [x.measured.isSome, x.ramped.isSome, x.reference.isSome]),
    (1, codeIn groupOrder x.state), (1, codeIn groupReasonOrder x.reason), (1, x.c), (1, x.inBand),
    (2, x.elapsed), (1, x.slipRun), (1, x.recoverRun), (2, x.slipCycles), (3, x.aEff),
    (4, x.measured.getD 0), (4, x.ramped.getD 0), (4, x.reference.getD 0), (3, x.refAccel),
    (4, x.maxError), (4, x.maxIntegrator), (1, present [x.limiting, x.brake])]

/-- R177: integrator, error and correction force of one station. -/
def memberFields (x : GroupRt) (i : Fin 4) : List (Nat × Int) :=
  [(4, x.integrator.get i), (4, x.error.get i), (3, x.force.get i)]

/-- R127; the code of the state and the form of the due time are free values (log entry 6), the pending SYNC
as an optional field is the model's reading (log entry 39). -/
def segmentFields (now : Nat) (x : Segment) : List (Nat × Int) :=
  [(1, present [x.pendingSync.isSome]),
    (1, (Config.segmentStateCode (codeIn [.down, .boot, .up, .jammed] x.state)).toNat),
    (1, codeIn segReasonOrder x.reason), (1, x.bootCount), (1, x.withheld), (2, x.stray),
    (4, match x.pendingSync with
      | some p => ((Config.dueTimeField now p.due).toNat : Int)
      | none => 0)]

/-- R128, R137; the buffer as an optional record is the model's reading: log entry 39. -/
def slotRtFields (x : SlotRt) : List (Nat × Int) :=
  [(1, present [x.buffer.isSome]), (1, codeIn classOrder x.lastClass), (1, x.errors),
    (4, (x.buffer.map Measure.cps).getD 0), (3, (x.buffer.map Measure.torque).getD 0),
    (1, ((x.buffer.map Measure.status).getD 0).toNat),
    (4, ((x.buffer.map Measure.serial).getD 0).toNat)]

/-- R88; the code of the state is a free value (log entry 6). -/
def contextFields (c : CheckContext) : List (Nat × Int) :=
  [(1, (Config.checkStateCode c.running.toNat).toNat), (1, c.group.val), (1, c.station.val),
    (2, c.pattern.toNat), (1, c.length), (1, c.step), (3, c.offset), (4, c.band), (1, c.elapsed),
    (4, c.peak)]

/-- R89 -/
def lastCheckFields (c : LastCheck) : List (Nat × Int) :=
  [(1, codeIn checkResultOrder c.result), (1, codeIn checkReasonOrder c.reason), (1, c.group.val),
    (1, c.station.val), (1, c.length), (1, c.step), (4, c.peak), (1, c.cycles)]

/-- R177: what READ_RUNTIME returns for a selector and an operand in its range. -/
def runtimeFields (s : State) (selector operand : Nat) : List (Nat × Int) :=
  let i : Fin 4 := Fin.ofNat 4 operand
  let g : Fin 2 := Fin.ofNat 2 operand
  match selector with
  | 0 => partFields s
  | 1 => pacingFields s.now s.pacing
  | 2 => portFields s.port
  | 3 => demandFields s.demand
  | 4 => stationRtFields (s.station i)
  | 5 => outputFields (s.setpoints.get i) (s.station i).slewMemory (s.direct i)
  | 6 => groupRtFields (s.group g)
  | 7 => four.flatMap (memberFields (s.group g))
  | 8 => segmentFields s.now (s.segs.get g)
  | _ => slotRtFields ((s.segs.get (Fin.ofNat 2 (operand / 4))).slots.get i)

/-! ## What the part reports, as fields (R185 to R200) -/

/-- R199: the results in the order of their codes. -/
def resultOrder : List ResultCode :=
  [.done, .wrongMode, .wrongState, .busy, .badArgument, .tableCheck, .unknown]

/-- R87, R188, R199: STATION_MOTION of a station; zero for one that is ABSENT. -/
def motionFields (x : StationRt) : List (Nat × Int) :=
  if x.state = .absent then [(8, 0)]
  else [(4, x.speed.getD 0), (3, x.accel), (1, codeIn stationOrder x.state)]

/-- R87, R188, R199: STATION_DRIVE of a station: the source in bits 1–0, LIMITED bit 6, SLEWED bit 7; zero
for one that is ABSENT. -/
def driveFields (x : StationRt) (p : SetPoint) : List (Nat × Int) :=
  if x.state = .absent then [(7, 0)]
  else
    [(3, p.torque),
      (1, codeIn sourceOrder p.source + p.limited.toNat * 2 ^ 6 + p.slewed.toNat * 2 ^ 7),
      (3, x.torque.getD 0)]

/-- R54, R69, R188, R199: GROUP, the greatest |I| in µm, rounded; OPEN and zero for one without members. -/
def groupItemFields (r : GroupRec) (x : GroupRt) : List (Nat × Int) :=
  if r.members = 0 then [(13, 0)]
  else
    [(1, codeIn groupOrder x.state), (4, x.reference.getD 0), (4, x.maxError),
      (3, ((x.maxIntegrator + 500) / 1000 : Nat)), (1, present [x.limiting, x.brake])]

/-- R154, R188, R199: SLOT, the last class in bits 2–0, bit 7 set when a record follows; the class beside an
EMPTY buffer is the model's choice: log entry 27. -/
def slotItemFields (x : SlotRt) : List (Nat × Int) :=
  match x.buffer with
  | none => [(1, codeIn classOrder x.lastClass), (12, 0)]
  | some m =>
    [(1, codeIn classOrder x.lastClass + 2 ^ 7), (4, m.cps), (3, m.torque), (1, m.status.toNat),
      (4, m.serial.toNat)]

/-- R102, R199: CHECK. -/
def checkItemFields (c : CheckContext) (l : LastCheck) : List (Nat × Int) :=
  if c.running then [(1, 4), (1, (c.elapsed / c.step : Nat)), (4, c.peak)]
  else
    [(1, codeIn [CheckResult.none, .pass, .fail, .aborted] l.result),
      (1, if l.step = 0 then 0 else (l.cycles / l.step : Nat)), (4, l.peak)]

/-- R188, R199: the value bytes of an item, as fields; the slots are numbered A1..A4, B1..B4. -/
def itemFields (s : State) (kind : ItemKind) (n : Nat) : List (Nat × Int) :=
  let i : Fin 4 := Fin.ofNat 4 n
  let g : Fin 2 := Fin.ofNat 2 n
  match kind with
  | .null => []
  | .stationMotion => motionFields (s.station i)
  | .stationDrive => driveFields (s.station i) (s.setpoints.get i)
  | .group => groupItemFields (s.store.groups.get g) (s.group g)
  | .slot => slotItemFields (s.slot (if n ≤ 3 then .a else .b) i)
  | .counters =>
    [(2, s.port.linkErrors), (2, s.pacing.early), (2, s.pacing.missedTotal), (2, (s.seg .a).stray),
      (2, (s.seg .b).stray)]
  | .check => checkItemFields s.check s.lastCheck

/-- R199: the reply part, its data apart. -/
def replyFields (r : Reply) : List (Nat × Int) :=
  [(1, r.tag.toNat), (1, r.code.toNat), (1, codeIn resultOrder r.answer.result), (1, r.answer.detail),
    (4, r.serial.toNat)]

/-- R163, R199: the payload of an UPLINK: header, echo, item count, the items, and the reply where the
holder has one. -/
def uplinkContent (s : State) (items : List (ItemKind × Nat)) : List Byte :=
  packed ([(4, (statusHeader s : Int)), (1, s.pacing.index.toNat), (4, s.pacing.serial.toNat),
      (1, (items.length : Int))]
    ++ items.flatMap fun p =>
      [(1, (codeIn itemOrder p.1 : Int)), (1, (p.2 : Int))] ++ itemFields s p.1 p.2)
  ++ match s.mgmt.holder with
    | some r => packed (replyFields r) ++ r.answer.data
    | none => []

/-- R200: the reasons of PACING events, in the order of their codes, the first 1. -/
def pacingReasonOrder : List PacingReason :=
  [.firstStart, .goodInterval, .badStart, .confirmed, .silence, .missed, .rejoined, .cellSilent,
    .haltRequest, .stopRequest]

/-- R200: the abort reasons of CHECK events, in the order of their codes, the first 3. -/
def abortOrder : List CheckReason :=
  [.capturing, .slipping, .broken, .abortRequest, .release, .halt, .restart]

/-- R200: the reason of a CHECK event. An abort with no reason of the table carries 0, which is the model's
choice for states that no run reaches: log entry 25. -/
def checkEventReason : CheckOutcome → Int
  | .pass => 1
  | .fail => 2
  | .aborted r => if r ∈ abortOrder then codeIn abortOrder r + 3 else 0

/-- R192, R200: kind, source class, index, reason and value of an event. -/
def eventParts : EventBody → Int × Int × Int × Int × Int
  | .restarted => (0, 0, 0, 0, 0)
  | .pacing r => (1, 0, 0, codeIn pacingReasonOrder r + 1, 0)
  | .cycleSkew skew => (2, 0, 0, 0, skew)
  | .mode entered => (3, 0, 0, if entered = .operate then 1 else 2, 0)
  | .segment g r => (4, 1, g.num.val, codeIn segReasonOrder r, 0)
  | .station i r => (5, 2, i.val, codeIn stationReasonOrder r, 0)
  | .group g r e => (6, 3, g.val, codeIn groupReasonOrder r, e)
  | .check g o peak => (7, 3, g.val, checkEventReason o, peak)
  | .demand lost => (8, 0, 0, if lost then 1 else 2, 0)
  | .direct i started => (9, 2, i.val, if started then 1 else 2, 0)

/-- R192, R200: the 13 bytes of an event record, as fields: the source class in bits 7–4, the index in bits
3–0. -/
def eventRecord (e : Event) : List (Nat × Int) :=
  let (kind, source, index, reason, value) := eventParts e.body
  [(2, e.sequence.toNat), (4, e.serial.toNat), (1, kind), (1, source * 2 ^ 4 + index), (1, reason),
    (4, value)]

/-- R191: whether the condition of the flag at a bit of the mask persists, by the bits of R198. -/
def flagPersists (s : State) : Nat → Bool
  | 1 => decide (s.pacing.state = .halted)
  | 2 => decide (s.store.cell.demandHold < s.demand.age)
  | 5 => decide ((s.seg .a).state = .jammed)
  | 6 => decide ((s.seg .b).state = .jammed)
  | 11 => decide ((s.station 0).state = .faulted)
  | 12 => decide ((s.station 1).state = .faulted)
  | 13 => decide ((s.station 2).state = .faulted)
  | 14 => decide ((s.station 3).state = .faulted)
  | 15 => decide ((s.group 0).state = .broken)
  | 16 => decide ((s.group 1).state = .broken)
  | _ => false

/-- R176, R177: the answer of a read by the operand ranges of its selectors. -/
def readAnswered (ranges : List (Nat × Nat)) (data : List Byte) (selector operand : Nat) : Answer :=
  match ranges[selector]? with
  | none => { result := .badArgument, detail := 1, data := [] }
  | some range =>
    if range.1 ≤ operand ∧ operand ≤ range.2 then { result := .done, detail := 0, data := data }
    else { result := .badArgument, detail := 2, data := [] }

/-! ## The argument checks of the loads, by their numbers -/

/-- The arguments of a request: field `first + j` in the width `widths` gives at `j`. -/
def arguments (first : Nat) (widths : List Nat) (v : Nat → Nat) : List Byte :=
  packed (widths.zipIdx.map fun w => (w.1, (v (first + w.2) : Int)))

/-- Every field fits its width. -/
def argumentsSized (first : Nat) (widths : List Nat) (v : Nat → Nat) : Prop :=
  ∀ j w, widths[j]? = some w → v (first + j) < 256 ^ w

/-- R174 -/
def cellCheck (v : Nat → Nat) : Nat → Prop
  | 1 => v 1 = 250 ∨ v 1 = 500 ∨ v 1 = 1000 ∨ v 1 = 2000
  | 2 => 1 ≤ v 2 ∧ v 2 * 8 ≤ v 1
  | 3 => 1 ≤ v 3 ∧ v 3 ≤ 15
  | 4 => 1 ≤ v 4 ∧ v 4 ≤ 15
  | 5 => v 5 ≤ 500
  | 6 => v 6 ≤ 500
  | 7 => 1 ≤ v 7 ∧ v 7 ≤ 1999
  | 8 => 1 ≤ v 8 ∧ v 8 ≤ 255
  | 9 => 1 ≤ v 9 ∧ v 9 ≤ 8
  | 10 => v 10 ≤ 1
  | 11 => v 11 ≤ 1
  | 12 => v 12 ≤ 6
  | 13 => v 13 < 2 ^ 18
  | _ => True

/-- R31: the row count, each row by its number, and the band. -/
def roadCheck (t : RoadTable) (n : Nat) : Prop :=
  (n = 0 → 2 ≤ t.rows.length ∧ t.rows.length ≤ 24) ∧
  (∀ r, 1 ≤ n → n ≤ 24 → t.rows[n - 1]? = some r →
    1 ≤ r.speed ∧ r.speed ≤ 90000 ∧ r.force ≤ 30000 ∧
    ∀ q, 2 ≤ n → t.rows[n - 2]? = some q → q.speed < r.speed) ∧
  (n = 25 → t.band ≤ 2000000)

/-- R3, R5: fields 2 to 16 are not checked for a record that is not present. -/
def stationCheck (v : Nat → Nat) (n : Nat) : Prop :=
  (n = 0 → v 0 ≤ 3) ∧ (n = 1 → v 1 ≤ 1) ∧
  (v 1 = 1 →
    (n = 2 → 500000 ≤ v 2 ∧ v 2 ≤ 6000000) ∧ (n = 3 → 75000 ≤ v 3 ∧ v 3 ≤ 955000) ∧
    (n = 4 → v 4 = 0x01 ∨ v 4 = 0xFF) ∧ (n = 5 → v 5 ≤ 1024) ∧ (n = 6 → v 6 ≤ 3000) ∧
    (n = 7 → 1 ≤ v 7 ∧ v 7 ≤ 300000) ∧ (n = 8 → 1 ≤ v 8 ∧ v 8 ≤ 300000) ∧
    (n = 9 → 1000000 ≤ v 9 ∧ v 9 ≤ 90000000) ∧ (n = 10 → 1 ≤ v 10 ∧ v 10 ≤ 15) ∧
    (n = 11 → 1 ≤ v 11 ∧ v 11 ≤ 90000000) ∧ (n = 12 → 1 ≤ v 12 ∧ v 12 ≤ 8) ∧
    (n = 13 → 1 ≤ v 13 ∧ v 13 ≤ 7) ∧ (n = 14 → 1 ≤ v 14 ∧ v 14 ≤ 1048576) ∧
    (n = 15 → 1 ≤ v 15 ∧ v 15 ≤ 300000) ∧ (n = 16 → 1 ≤ v 16 ∧ v 16 ≤ 20000))

/-- R41, with the members of the other group; the place of each relation is log entry 18. -/
def groupCheck (other : BitVec 4) (v : Nat → Nat) : Nat → Prop
  | 0 => v 0 ≤ 1
  | 1 => v 1 < 16 ∧ ∀ i < 4, (v 1).testBit i = true → other.getLsbD i = false
  | 2 => v 2 ≤ 1
  | 3 => v 3 ≤ 3
  | 6 => 1 ≤ v 6 ∧ v 6 ≤ 1000000
  | 7 => v 7 ≤ 40000
  | 8 => 1 ≤ v 8 ∧ v 8 ≤ 255
  | 9 => 1 ≤ v 9 ∧ v 9 ≤ 255
  | 10 => 1 ≤ v 10 ∧ v 10 ≤ 4095
  | 11 => v 11 ≤ 10000000
  | 12 => v 12 ≤ 10000000 ∧ v 11 ≤ v 12
  | 13 => v 13 ≤ 10000000 ∧ v 12 < v 13
  | 14 => 1 ≤ v 14 ∧ v 14 ≤ 255
  | 15 => 1 ≤ v 15 ∧ v 15 ≤ 255
  | 16 => 1 ≤ v 16 ∧ v 16 ≤ 4095
  | 17 => 1 ≤ v 17 ∧ v 17 ≤ 1000000 ∧ v 17 ≤ v 6
  | 18 => 1 ≤ v 18 ∧ v 18 ≤ 20000
  | 19 => 1 ≤ v 19 ∧ v 19 ≤ 7
  | _ => True

/-- R129, checks 4 to 7 in their order, each with the number it is refused with. -/
def slotCheck (x : Store) (g : Seg) (v : Nat → Nat) : Nat → Nat × Prop
  | 0 => (1, 1 ≤ v 1 ∧ v 1 ≤ 4)
  | 1 => (2, v 2 ≤ 1)
  | 2 => (3, v 2 = 1 → v 3 ≤ 3)
  | 3 => (4, v 2 = 1 → v 4 ≤ 15)
  | 4 => (5, v 2 = 1 → v 5 ≤ 1999)
  | 5 => (6, v 2 = 1 → 1 ≤ v 6 ∧ v 6 ≤ 2000 ∧ v 5 < v 6)
  | 6 =>
    (3, v 2 = 1 → ∀ (g' : Seg) (k : Fin 4), ((x.slots.get g'.num).get k).enabled = true →
      ((x.slots.get g'.num).get k).station.val = v 3 → g' = g ∧ k.val + 1 = v 1)
  | _ => (0, True)

/-- R186 -/
def entryCheck (v : Nat → Nat) (n : Nat) : Prop :=
  (n = 0 → v 0 ≤ 15) ∧ (n = 1 → v 1 ≤ 1) ∧
  (v 1 = 1 →
    (n = 2 → v 2 ≤ 6) ∧
    (n = 3 → (v 2 = 1 ∨ v 2 = 2 → v 3 ≤ 3) ∧ (v 2 = 3 → v 3 ≤ 1) ∧ (v 2 = 4 → v 3 ≤ 7)) ∧
    (n = 4 → v 4 ≤ 5) ∧ (n = 5 → v 5 ∈ [1, 2, 4, 8, 16, 32, 64]) ∧ (n = 6 → v 6 < v 5))

/-- R90, checks 1 to 6. -/
def probeCheck (v : Nat → Nat) : Nat → Prop
  | 0 => v 0 ≤ 1
  | 1 => v 1 ≤ 3
  | 3 => 8 ≤ v 3 ∧ v 3 ≤ 16
  | 4 => v 4 = 1 ∨ v 4 = 2 ∨ v 4 = 4 ∨ v 4 = 8
  | 5 => 1 ≤ v 5 ∧ v 5 ≤ 5000
  | 6 => v 6 ≤ 10000000
  | _ => True

/-- The first check that fails has this number. -/
def firstFails (check : Nat → Prop) (n : Nat) : Prop := ¬ check n ∧ ∀ m < n, check m

/-! ## Moments (R106, R112, R115, R123, R131, R134, R156, R195) -/

/-- Whether an event of the part is due: half a µs a byte for an UPLINK on the line, 1 µs for an idle
line, a set moment that has come, anchor + 4P, anchor + P + tol. -/
def IsDue (s : State) : Instr → Prop
  | .transmitDone _ =>
    s.port.tx.sending = true ∧ 25 * s.port.tx.frame.length ≤ 2 * (s.now - s.port.tx.since)
  | .lineIdle _ => s.port.rx ≠ .ready ∧ s.port.quietSince + 25 ≤ s.now
  | .windowClose _ g k => ∃ w, (s.slot g k).window = some w ∧ w.closes ≤ s.now
  | .windowOpen _ g k => ∃ w, (s.slot g k).window = some w ∧ w.isOpen = false ∧ w.opens ≤ s.now
  | .syncDue _ g => ∃ p, (s.seg g).pendingSync = some p ∧ p.due ≤ s.now
  | .computationPoint _ => ∃ due, s.pacing.cpDue = some due ∧ due ≤ s.now
  | .silence _ =>
    (s.pacing.state = .acquire ∨ s.pacing.state = .confirm) ∧
      s.pacing.anchor.getD 0 + 25 * (4 * s.pacing.period) ≤ s.now
  | .missedCycle _ =>
    (s.pacing.state = .tracking ∨ s.pacing.state = .freewheel) ∧
      s.pacing.anchor.getD 0 + 25 * (s.pacing.period + s.pacing.tol) ≤ s.now
  | .localCycleBegin _ => s.pacing.state = .halted ∧ s.pacing.localDue ≤ s.now
  | _ => False

/-! ## The segments -/

/-- R131, R196: the line is idle: no drive transmits, and 4 µs have passed since the last that did. -/
def quiet (now : Nat) (x : Segment) : Prop :=
  x.lineBusy = false ∧ ∀ t, x.lastEnd = some t → t + 100 ≤ now

/-- R136, R196: the class of a window's candidate, by the first check that fails. -/
def replyClass (state : SegState) (address page : Nat) : Candidate → SlotClass
  | .none => .none
  | .arriving _ => .overrun
  | .complete chars =>
    if ¬ (chars.head? = some 0x5A ∧ chars.getLast? = some (crc8 chars.dropLast) ∧
        ((chars[2]? = some 0x01 ∧ chars.length = 12) ∨ (chars[2]? = some 0x02 ∧ chars.length = 9)))
    then .check
    else if chars[1]? ≠ some (BitVec.ofNat 8 address) then .address
    else if state = .boot then
      if chars[2]? = some 0x02 ∧ chars[3]? = some (BitVec.ofNat 8 page) then .good else .kind
    else if chars[2]? = some 0x01 then .good else .kind

/-- R138: whether a class is an error of its slot. -/
def countsError (c : SlotClass) : Bool :=
  decide (c = .overrun ∨ c = .check ∨ c = .address ∨ c = .kind)

/-- R136 to R138: a slot after the classification of its window. -/
def classifiedSlot (state : SegState) (r : SlotRec) (w : Window) (x : SlotRt) : SlotRt :=
  let c := replyClass state r.address w.page w.candidate
  { lastClass := c, errors := if countsError c then min (x.errors + 1) 255 else x.errors,
    buffer := match c, state, w.candidate with
      | .good, .up, .complete chars =>
        some
          { cps := signedField 4 (beNat ((chars.drop 3).take 4)),
            torque := signedField 3 (beNat ((chars.drop 7).take 3)),
            status := (chars[10]?).getD 0, serial := w.serial }
      | _, _, _ => x.buffer,
    window := none }

/-- R143: a station's init values after a good page. -/
def pageTaken (page : Nat) (data : List Byte) (v : InitValues) : InitValues :=
  let n := beNat data
  if page = 0 then
    { v with identity := some { typeCode := beNat (data.take 2), firmware := beNat (data.drop 2) } }
  else if page = 1 ∧ 1 ≤ n ∧ n ≤ 1048576 then { v with counts := some n }
  else if page = 2 ∧ 1 ≤ n ∧ n ≤ 300000 then { v with ratedTorque := some n }
  else if page = 3 ∧ 1 ≤ n ∧ n ≤ 20000 then { v with ratedSpeed := some n }
  else { v with mark := .badInit }

/-- R142, R143: a station's runtime record with other init values, its limits derived again. -/
def initTaken (r : StationRec) (v : InitValues) (x : StationRt) : StationRt :=
  { x with init := v, torqueLimit := torqueLimitOf r v, overspeedLimit := overspeedLimitOf r v }

/-- R127, R146, R150: a segment that has entered DOWN. -/
def downSegment (reason : SegReason) (x : Segment) : Segment :=
  { x with
    state := .down, reason := reason, bootCount := 0, withheld := 0, pendingSync := none,
    replySlot := none, slots := Four.tabulate fun k => { x.slots.get k with window := none } }

/-- R196: the bytes of a SYNC. -/
def syncBytes (kind : Int) (index : BitVec 6) (page : Nat) (entries : List (List (Nat × Int))) :
    List Byte :=
  let body := packed ([(1, 0xA5), (1, kind), (1, index.toNat), (1, (page : Int)),
    (1, (entries.length : Int))] ++ entries.flatten)
  body ++ [crc8 body]

/-- R84: whether a slot's SYNC entry is SAFE. -/
def safeEntry (s : State) (r : SlotRec) : Prop :=
  s.mgmt.mode = .config ∨ s.pacing.state = .halted ∨ (s.setpoints.get r.station).source = .safe

/-! ## Stations -/

/-- R20, R83: station `i`, its runtime record at `x`, enters FAULTED. -/
def faultedAt (i : Fin 4) (reason : StationReason) (x : StationRt) (s : State) : State :=
  { writeEvents (.station i reason :: if (s.direct i).active then [.direct i false] else [])
      { s with report := { s.report with
          faults := s.report.faults ||| BitVec.twoPow 18 (11 + i.val) } } with
    stations := s.stations.set i { x with state := .faulted, reason := reason },
    directs := s.directs.set i (directEnded .stationLost (s.direct i)) }

/-- R16: the overspeed debounce of station `i`, LIVE or STALE with its runtime record at `x`. -/
def debounced (i : Fin 4) (x : StationRt) (s : State) : State :=
  if x.overspeedLimit ≤ (x.speed.getD 0).natAbs then
    if (s.store.stations.get i).overspeedDebounce ≤ x.overspeed + 1 then
      faultedAt i .overspeed { x with overspeed := x.overspeed + 1 } s
    else { s with stations := s.stations.set i { x with overspeed := x.overspeed + 1 } }
  else { s with stations := s.stations.set i { x with overspeed := 0 } }

/-- R15: station `i`, its runtime record at `x`, without a usable sample. -/
def unsampled (i : Fin 4) (x : StationRt) (s : State) : State :=
  if x.state = .live ∨ x.state = .stale then
    if (s.store.stations.get i).holdLimit < x.stale + 1 then
      faultedAt i .noData { x with stale := x.stale + 1 } s
    else debounced i { x with state := .stale, stale := x.stale + 1 } s
  else { s with stations := s.stations.set i x }

/-- R14: station `i`, its runtime record at `x`, adopts a speed. -/
def sampled (i : Fin 4) (v : Int) (x : StationRt) (s : State) : State :=
  debounced i { x with state := .live, speed := some v, stale := 0 }
    (if x.state = .waiting then writeEvent (.station i .firstSample) s else s)

/-- R17, R18, R48: a ring of speeds with one more, and the acceleration over `k` cycles of `p` µs. -/
structure RingAccel (k p : Nat) (before : List Int) (v : Int) (after : List Int) (a : Int) : Prop where
  ring : after = (before ++ [v]).drop ((before ++ [v]).length - 8)
  short : after.length < k + 1 → a = 0
  accel : k + 1 ≤ after.length → 0 < k * p → ∀ newest older q, after.getLast? = some newest →
    after[after.length - 1 - k]? = some older → RoundsTo ((newest - older) * 1000) (k * p) q →
    a = max (-50000) (min 50000 q)

/-- R50, R55: a station's error against a reference, where it is LIVE or STALE and both exist; 0 else, which
is the model's choice: log entry 25. -/
def errorOf (x : StationRt) (reference : Option Int) : Int :=
  match x.speed, reference with
  | some v, some z => if x.state = .live ∨ x.state = .stale then v - z else 0
  | _, _ => 0

/-! ## Records in range -/

/-- R174 -/
structure CellFits (c : CellRec) : Prop where
  period : c.period = 250 ∨ c.period = 500 ∨ c.period = 1000 ∨ c.period = 2000
  tol : 1 ≤ c.tol ∧ c.tol * 8 ≤ c.period
  missedLimit : 1 ≤ c.missedLimit ∧ c.missedLimit ≤ 15
  rejoinCount : 1 ≤ c.rejoinCount ∧ c.rejoinCount ≤ 15
  delay : ∀ g, c.delay.get g ≤ 500
  offset : 1 ≤ c.computeOffset ∧ c.computeOffset ≤ 1999
  hold : 1 ≤ c.demandHold ∧ c.demandHold ≤ 255
  jam : 1 ≤ c.jamLimit ∧ c.jamLimit ≤ 8
  width : c.reportWidth ≤ 6

/-- R30, R31 -/
structure RoadFits (t : RoadTable) : Prop where
  count : 2 ≤ t.rows.length ∧ t.rows.length ≤ 24
  row : ∀ r ∈ t.rows, 1 ≤ r.speed ∧ r.speed ≤ 90000 ∧ r.force ≤ 30000
  ascending : t.rows.Pairwise fun a b => a.speed < b.speed
  band : t.band ≤ 2000000

/-- R3, for a record that is present. -/
structure StationFits (r : StationRec) : Prop where
  present : r.present = true
  circumference : 500000 ≤ r.circumference ∧ r.circumference ≤ 6000000
  radius : 75000 ≤ r.radius ∧ r.radius ≤ 955000
  share : r.share ≤ 1024
  mechMass : r.mechMass ≤ 3000
  torqueLimit : 1 ≤ r.torqueLimit ∧ r.torqueLimit ≤ 300000
  slew : 1 ≤ r.slew ∧ r.slew ≤ 300000
  overspeed : 1000000 ≤ r.overspeed ∧ r.overspeed ≤ 90000000
  debounce : 1 ≤ r.overspeedDebounce ∧ r.overspeedDebounce ≤ 15
  maxStep : 1 ≤ r.maxStep ∧ r.maxStep ≤ 90000000
  hold : 1 ≤ r.holdLimit ∧ r.holdLimit ≤ 8
  window : 1 ≤ r.accelWindow ∧ r.accelWindow ≤ 7
  counts : 1 ≤ r.fallbackCounts ∧ r.fallbackCounts ≤ 1048576
  torque : 1 ≤ r.fallbackTorque ∧ r.fallbackTorque ≤ 300000
  speed : 1 ≤ r.fallbackSpeed ∧ r.fallbackSpeed ≤ 20000

/-- R40, with the relations of its bands and its drift limit. -/
structure GroupFits (r : GroupRec) : Prop where
  kp : r.kp ≤ 65535
  ki : r.ki ≤ 65535
  clamp : 1 ≤ r.integratorClamp ∧ r.integratorClamp ≤ 1000000
  authority : r.authority ≤ 40000
  cycles : 1 ≤ r.captureCycles ∧ r.captureCycles ≤ 255
  confirm : 1 ≤ r.captureConfirm ∧ r.captureConfirm ≤ 255
  timeout : 1 ≤ r.captureTimeout ∧ r.captureTimeout ≤ 4095
  bands : r.captureBand ≤ r.slipBand ∧ r.slipBand < r.breakBand ∧ r.breakBand ≤ 10000000
  debounce : 1 ≤ r.slipDebounce ∧ r.slipDebounce ≤ 255
  recover : 1 ≤ r.recoverCount ∧ r.recoverCount ≤ 255
  breakCount : 1 ≤ r.breakCount ∧ r.breakCount ≤ 4095
  drift : 1 ≤ r.driftLimit ∧ r.driftLimit ≤ r.integratorClamp
  accel : 1 ≤ r.accelLimit ∧ r.accelLimit ≤ 20000
  window : 1 ≤ r.accelWindow ∧ r.accelWindow ≤ 7

/-- R128, for a slot that is enabled. -/
structure SlotFits (r : SlotRec) : Prop where
  enabled : r.enabled = true
  address : r.address ≤ 15
  window : r.earliest < r.close ∧ r.earliest ≤ 1999 ∧ r.close ≤ 2000

/-- R186: the operands of an item kind. -/
def itemOperandFits : ItemKind → Nat → Prop
  | .stationMotion, n | .stationDrive, n => n ≤ 3
  | .group, n => n ≤ 1
  | .slot, n => n ≤ 7
  | .null, n | .counters, n | .check, n => n ≤ 255

/-- R186, for an entry that is enabled. -/
structure EntryFits (e : SchedEntry) : Prop where
  enabled : e.enabled = true
  operand : itemOperandFits e.kind e.operand
  position : e.position ≤ 5
  repetition : e.repetition ∈ [1, 2, 4, 8, 16, 32, 64]
  offset : e.offset < e.repetition

/-! ## The consistency that OPERATE asks for (R178) -/

/-- An enabled slot record that names a station. -/
def slotNames (x : Store) (gk : Seg × Fin 4) (i : Fin 4) : Prop :=
  ((x.slots.get gk.1.num).get gk.2).enabled = true ∧ ((x.slots.get gk.1.num).get gk.2).station = i

/-- The share of a station where its record is present. -/
def presentShare (x : Store) (i : Fin 4) : Nat :=
  if (x.stations.get i).present then (x.stations.get i).share else 0

/-- Check 5 for a group. -/
def groupReady (x : Store) (g : Fin 2) : Prop :=
  (∀ i, isMember (x.groups.get g) i = true → (x.stations.get i).present = true) ∧
    ((x.groups.get g).kind = .leader → isMember (x.groups.get g) (x.groups.get g).leader = true)

/-- Check 6 for a station. -/
def rollerReady (x : Store) (i : Fin 4) : Prop :=
  (x.stations.get i).present = true →
    1000 * (((x.stations.get i).circumference : Int) * 10000
      - (x.stations.get i).radius * 62832).natAbs ≤ (x.stations.get i).radius * 62832

/-- Check 7 for a segment. -/
def windowsReady (x : Store) (g : Seg) : Prop :=
  (∀ j k : Fin 4, j < k → ((x.slots.get g.num).get j).enabled = true →
    ((x.slots.get g.num).get k).enabled = true →
    ((x.slots.get g.num).get j).close ≤ ((x.slots.get g.num).get k).earliest) ∧
  ∀ k : Fin 4, ((x.slots.get g.num).get k).enabled = true →
    x.cell.delay.get g.num + ((x.slots.get g.num).get k).close < x.cell.computeOffset

/-- The checks of R178, by their numbers. -/
def storeCheck (x : Store) : Nat → Prop
  | 1 => 2 ≤ x.road.rows.length
  | 2 => ∃ i, (x.stations.get i).present = true
  | 3 => presentShare x 0 + presentShare x 1 + presentShare x 2 + presentShare x 3 = 1024
  | 4 =>
    (∀ i, (x.stations.get i).present = true →
      ∃ gk, slotNames x gk i ∧ ∀ gk', slotNames x gk' i → gk' = gk) ∧
    ∀ gk i, slotNames x gk i → (x.stations.get i).present = true
  | 5 => ∀ g, groupReady x g
  | 6 => ∀ i, rollerReady x i
  | 7 => ∀ g, windowsReady x g
  | 8 => (x.cell.computeOffset : Int) < (x.cell.period : Int) - x.cell.tol
  | _ => True

/-- A store that passes every check. -/
def StoreReady (x : Store) : Prop := ∀ n, storeCheck x n

/-- R178: the data byte of a failed check: of check 4 the lowest present station that no enabled slot
names, or else 16 and the index of the first enabled slot that names an absent one; of check 5 the first
group, of check 6 the first station, of check 7 the first segment that fails. -/
structure StoreItem (x : Store) (n : Nat) (data : List Byte) : Prop where
  none : n = 1 ∨ n = 2 ∨ n = 3 ∨ n = 8 → data = []
  unslotted : n = 4 → ∀ i : Fin 4, (x.stations.get i).present = true → (∀ gk, ¬ slotNames x gk i) →
    (∀ j < i, (x.stations.get j).present = true → ∃ gk, slotNames x gk j) →
    data = [BitVec.ofNat 8 i.val]
  absent : n = 4 → (∀ i, (x.stations.get i).present = true → ∃ gk, slotNames x gk i) →
    ∀ (g : Seg) (k i : Fin 4), slotNames x (g, k) i → (x.stations.get i).present = false →
      (∀ g' k' i', g'.num.val * 4 + k'.val < g.num.val * 4 + k.val → slotNames x (g', k') i' →
        (x.stations.get i').present = true) →
      data = [BitVec.ofNat 8 (16 + (g.num.val * 4 + k.val))]
  group : n = 5 → ∀ g, ¬ groupReady x g → (∀ g' < g, groupReady x g') →
    data = [BitVec.ofNat 8 g.val]
  roller : n = 6 → ∀ i, ¬ rollerReady x i → (∀ j < i, rollerReady x j) →
    data = [BitVec.ofNat 8 i.val]
  windows : n = 7 → ∀ g, ¬ windowsReady x g → (∀ g', g'.num < g.num → windowsReady x g') →
    data = [BitVec.ofNat 8 g.num.val]

end Sys2Proof.Machine
end

