-- ==== Sys2Proof/WellFormed.lean ====
section
/-! DEFINITION. The checks on a command as syntax: that its operands are ones the lines can carry. -/

namespace Sys2Proof

/-- R195: a DEMAND's target speed is a signed 32-bit field. -/
def fitsSigned32 (z : Int) : Bool := decide (-2147483648 ≤ z) && decide (z ≤ 2147483647)

/-- R195: a REQUEST's payload has at most 200 bytes, of which two are its code and tag. -/
def fitsRequest (args : List Byte) : Bool := decide (args.length ≤ 198)

/-- A command whose operands its line can carry. -/
def Instr.wf : Instr → Bool
  | .demand _ _ speed mass => fitsSigned32 speed && decide (mass ≤ 65535)
  | .unknown _ code _ args => !(Machine.requestCodes.contains code) && fitsRequest args
  | .loadCell _ _ args | .loadStation _ _ args | .loadRoadload _ _ args | .loadGroup _ _ args
  | .loadSlot _ _ args | .loadSchedule _ _ args | .readTable _ _ args | .readRuntime _ _ args
  | .readEvents _ _ args | .readCheck _ _ args | .enterOperate _ _ args | .enterConfig _ _ args
  | .restart _ _ args | .halt _ _ args | .stop _ _ args | .engage _ _ args | .release _ _ args
  | .startCheck _ _ args | .abortCheck _ _ args | .directTorque _ _ args
  | .clearFaults _ _ args => fitsRequest args
  | .replyComplete _ _ chars => !chars.isEmpty
  | .hardReset _ | .start _ _ | .linkCheckDiscard _ | .lineIdle _ | .requestDropped _ | .silence _
  | .missedCycle _ | .localCycleBegin _ | .computationPoint _ | .syncDue _ _ | .windowOpen _ _ _
  | .windowClose _ _ _ | .replyStart _ _ | .transmitDone _ | .cellLinkByteReceived _ _ => true

end Sys2Proof
end

