-- ==== Sys2Proof/Certificates/Slice0/Obligations.lean ====
section
/-! DEFINITION. The statements about the part that the provers prove. Where a statement gives the whole
next state as an update of the state before, all that the update does not name is unchanged. -/

open Sys2Proof Sys2Proof.Machine

/-! ## The queue and the clock -/

/-- The queue is first in, first out: a step is the front command's meaning on the state with the rest
of the queue. -/
def Obligations.StepTakesFront : Prop :=
  ∀ c rest s, s.pending = c :: rest → step s = exec c { s with pending := rest }

/-- With nothing queued a step queues an event of the part that is due, at the present time, or, where none
is due, lets one REFCLK period pass. When an event is due: R106, R112, R115, R117, R123, R131, R134, R136,
R156, R163. That the step takes the events one by one in the queue is the model's choice: log entry 2. -/
def Obligations.StepWhenIdle : Prop :=
  ∀ s, s.pending = [] →
    ((∀ c, ¬ IsDue s c) → step s = .next { s with now := s.now + 1 }) ∧
    (∀ c, IsDue s c → ∃ d, IsDue s d ∧ d.time = s.now ∧ step s = .next { s with pending := [d] })

/-- No command stops the part (DEDUCED, log entry 17); each is taken at its time, or now where that has
passed (the model's choice, log entry 1), and leaves the queue alone. -/
def Obligations.EveryCommandCompletes : Prop :=
  ∀ c s, ∃ t, exec c s = .next t ∧ t.pending = s.pending ∧ t.now = max s.now c.time

/-! ## Reset -/

/-- HARD_RESET puts every piece of the part's state at its hard reset value: below, the values of chapters 1
to 10, but for the fields the manual implies and lists in no record. Of these, that cpDue, every window,
replySlot, lastEnd and sync are absent and that the burst and the frame are empty is the model's choice (log
entry 4). The clock, the queue, the count of free choices and what a drive does on a line are not the part's
state and stay (the model's choice: log entries 1, 3, 5 and 20), as is that at State.reset no drive is on a
line (lineBusy false: log entry 5). -/
def Obligations.HardReset : Prop :=
  (∀ t s, exec (.hardReset t) s = .next
     { State.reset with
       now := max s.now t, pending := s.pending, free := s.free,
       port := { State.reset.port with quietSince := max s.now t },
       segs :=
         ⟨{ State.reset.segs.x0 with lineBusy := s.segs.x0.lineBusy, lastEnd := s.segs.x0.lastEnd },
          { State.reset.segs.x1 with lineBusy := s.segs.x1.lineBusy, lastEnd := s.segs.x1.lastEnd }⟩ }) ∧
  (let s := State.reset
   s.mgmt = { mode := .config, holder := none, dropped := 0, droppedNotice := false } ∧
   s.pacing =
     { state := .listen, haltReason := .none, anchor := none, index := 0, serial := 0, confirm := 0,
       missed := 0, goodRun := 0, haltPending := false, period := 1000, tol := 20, offset := 700,
       early := 0, missedTotal := 0, ignored := 0, cut := 0, cpDue := none,
       localDue := s.pacing.localDue } ∧
   s.port =
     { rx := .idleWait, burst := [], quietSince := s.port.quietSince,
       pendingDemand := { mode := .coast, target := 0, mass := 1500, arrived := false },
       clampNotice := false, linkErrors := 0, uplinkSkips := 0,
       tx := { sending := false, frame := [], since := s.port.tx.since }, replyOwed := false } ∧
   s.demand =
     { mode := .coast, target := 0, mass := 1500, age := 0, lost := false, prevMode := .coast } ∧
   (∀ g, s.seg g =
     { state := .down, reason := .none, bootCount := 0, withheld := 0, stray := 0, pendingSync := none,
       slots := Four.tabulate fun _ =>
         { lastClass := .none, errors := 0, buffer := none, window := none },
       lineBusy := false, lastEnd := none, replySlot := none, sync := none }) ∧
   (∀ i, s.station i =
     { state := .absent, reason := .none, speed := none, accel := 0, stale := 0, overspeed := 0,
       plausibility := 0, status := none, torque := none,
       init :=
         { identity := none, counts := none, ratedTorque := none, ratedSpeed := none, mark := .none },
       torqueLimit := 0, overspeedLimit := 0, slewMemory := 0, ring := [] }) ∧
   (∀ g, s.group g =
     { state := .opened, reason := .none, c := 0, inBand := 0, elapsed := 0, slipRun := 0,
       recoverRun := 0, slipCycles := 0, aEff := 0, measured := none, ramped := none,
       reference := none, ring := [], refAccel := 0, integrator := ⟨0, 0, 0, 0⟩,
       error := ⟨0, 0, 0, 0⟩, force := ⟨0, 0, 0, 0⟩, maxError := 0, maxIntegrator := 0,
       limiting := false, brake := false }) ∧
   (∀ i, s.setpoints.get i =
     { torque := 0, source := .safe, limited := false, slewed := false, serial := 0 }) ∧
   (∀ i, s.direct i = { active := false, torque := 0, remaining := 0, endCause := .none }) ∧
   s.check =
     { running := false, group := 0, station := 0, pattern := 0, length := 0, step := 0, offset := 0,
       band := 0, elapsed := 0, peak := 0 } ∧
   s.lastCheck =
     { result := .none, reason := .none, group := 0, station := 0, length := 0, step := 0, peak := 0,
       cycles := 0 } ∧
   s.report = { faults := 0, queue := [], nextSequence := 0, overruns := 0 } ∧
   s.store.cell =
     { period := 1000, tol := 20, missedLimit := 8, rejoinCount := 4, delay := ⟨0, 0⟩,
       computeOffset := 700, demandHold := 20, jamLimit := 3, bootSkip := ⟨false, false⟩,
       reportWidth := 0, attention := 0 } ∧
   s.store.road = { rows := [], band := 0 } ∧
   (∀ i, s.store.stations.get i =
     { present := false, circumference := 0, radius := 0, direction := .plus, share := 0,
       mechMass := 0, torqueLimit := 0, slew := 0, overspeed := 0, overspeedDebounce := 0,
       maxStep := 0, holdLimit := 0, accelWindow := 0, fallbackCounts := 0, fallbackTorque := 0,
       fallbackSpeed := 0 }) ∧
   (∀ g, s.store.groups.get g =
     { members := 0, kind := .mean, leader := 0, kp := 0, ki := 0, integratorClamp := 0,
       authority := 0, captureCycles := 0, captureConfirm := 0, captureTimeout := 0,
       captureBand := 0, slipBand := 0, breakBand := 0, slipDebounce := 0, recoverCount := 0,
       breakCount := 0, driftLimit := 0, accelLimit := 0, accelWindow := 0 }) ∧
   (∀ g k, s.slotRec g k =
     { enabled := false, station := 0, address := 0, earliest := 0, close := 0 }) ∧
   s.store.schedule.length = 16 ∧
   ∀ e ∈ s.store.schedule, e =
     { enabled := false, kind := .null, operand := 0, position := 0, repetition := 1, offset := 0 })

/-- The state after reset has every invariant that the statements on steps keep. -/
def Obligations.ResetIsSafe : Prop := Safe State.reset

/-! ## The cell link -/

/-- R156: what one byte does in each receiver state; the last CRC byte of a frame is the arrival of the
command the frame is. -/
def Obligations.BytesReceived : Prop :=
  ∀ t b (s : State),
    (s.port.rx = .idleWait ∨ s.port.rx = .discard →
      exec (.cellLinkByteReceived t b) s = .next
        { s with now := max s.now t, port := { s.port with quietSince := max s.now t } }) ∧
    (s.port.rx = .ready →
      exec (.cellLinkByteReceived t b) s = .next
        { s with
          now := max s.now t,
          port := { s.port with
            quietSince := max s.now t, rx := if b = 0x7E then .inFrame else .discard,
            burst := [] } }) ∧
    (∀ kind, s.port.rx = .inFrame → s.port.burst = [kind] → 200 < b.toNat →
      exec (.cellLinkByteReceived t b) s = .next
        { s with
          now := max s.now t,
          port := { s.port with quietSince := max s.now t, rx := .discard, burst := [] } }) ∧
    (s.port.rx = .inFrame →
      s.port.burst = [] ∨ (∃ kind, s.port.burst = [kind] ∧ b.toNat ≤ 200) ∨
        (∃ kind length rest, s.port.burst = kind :: length :: rest ∧
          rest.length + 1 < length.toNat + 2) →
      exec (.cellLinkByteReceived t b) s = .next
        { s with
          now := max s.now t,
          port := { s.port with quietSince := max s.now t, burst := s.port.burst ++ [b] } }) ∧
    (∀ kind length rest, s.port.rx = .inFrame → s.port.burst = kind :: length :: rest →
      rest.length + 1 = length.toNat + 2 →
      exec (.cellLinkByteReceived t b) s = exec ((judge (s.port.burst ++ [b])).command t) s)

/-- A command that has a frame is the same step whether it is taken whole or as the bytes of its frame,
one after another on a ready receiver, the last at the command's time (R156, R157, R159, R160, R162,
R195). That a command taken whole leaves the receiver as the last byte of its frame does is the model's
choice: log entry 23. -/
def Obligations.BytesMakeFrame : Prop :=
  ∀ (i : Instr) (bytes : List Byte) (times : List Nat) (s : State),
    i.wf = true → frameBytes i = some bytes → s.port.rx = .ready →
    times.length = bytes.length → (∀ u ∈ times, u ≤ i.time) →
    runAll (List.zipWith Instr.cellLinkByteReceived (times ++ [i.time]) (0x7E :: bytes)) s = exec i s

/-- The link check reads from a command's frame the command, every operand at every value (R157, R195,
R198). -/
def Obligations.FrameRoundTrip : Prop :=
  ∀ (i : Instr) (bytes : List Byte), i.wf = true → frameBytes i = some bytes →
    (judge bytes).command i.time = i

/-- R156, R157: the four checks of the link check; a discarded frame, and a fragment or truncated frame at
the idle, count one link check error and latch LINK_CHECK, bit 3 of the register; an idle line without a
burst counts none. -/
def Obligations.LinkCheck : Prop :=
  (∀ (kind length high low : Byte) (payload : List Byte),
     let f := judge (kind :: length :: payload ++ [high, low])
     let sum := (crc16 (kind :: length :: payload)).toNat
     (high.toNat * 256 + low.toNat ≠ sum → f = .bad) ∧
     (high.toNat * 256 + low.toNat = sum →
       (f = .bad ↔
         (kind ≠ 0x01 ∧ kind ≠ 0x02 ∧ kind ≠ 0x03) ∨ (kind = 0x01 ∧ payload.length ≠ 1) ∨
         (kind = 0x02 ∧ payload.length ≠ 7) ∨ (kind = 0x03 ∧ payload.length < 2) ∨
         (kind = 0x01 ∧ 63 < (payload.headD 0).toNat) ∨
         (kind = 0x02 ∧ 2 < (payload.headD 0).toNat)))) ∧
  ∀ t (s : State),
    exec (.linkCheckDiscard t) s = .next
      { s with
        now := max s.now t,
        port := { s.port with
          rx := .idleWait, burst := [], quietSince := max s.now t,
          linkErrors := min (s.port.linkErrors + 1) 65535 },
        report := { s.report with faults := s.report.faults ||| 0x8 } } ∧
    (s.port.rx = .idleWait ∨ s.port.rx = .ready →
      exec (.lineIdle t) s = .next
        { s with now := max s.now t, port := { s.port with rx := .ready, burst := [] } }) ∧
    (s.port.rx = .inFrame ∨ s.port.rx = .discard →
      exec (.lineIdle t) s = .next
        { s with
          now := max s.now t,
          port := { s.port with
            rx := .ready, burst := [], linkErrors := min (s.port.linkErrors + 1) 65535 },
          report := { s.report with faults := s.report.faults ||| 0x8 } })

/-- R160: each field of a DEMAND clamped into the pending demand, the mark set, and the clamp notice set
when a clamp changed a field. -/
def Obligations.DemandClamped : Prop :=
  ∀ t mode (speed : Int) (mass : Nat) (s : State),
    exec (.demand t mode speed mass) s = .next
      { s with
        now := max s.now t,
        port := { s.port with
          rx := .idleWait, burst := [], quietSince := max s.now t,
          pendingDemand :=
            { mode := mode,
              target := if speed < 0 then 0 else if 90000 < speed then 90000 else speed.toNat,
              mass := if mass < 500 then 500 else if 6000 < mass then 6000 else mass,
              arrived := true },
          clampNotice := s.port.clampNotice || decide (speed < 0) || decide (90000 < speed)
            || decide (mass < 500) || decide (6000 < mass) } }

/-! ## Requests in common -/

/-- R169, holder full: a request is not executed; it is counted and the dropped notice is set. R171, holder
empty: a code that names no request is answered UNKNOWN with detail 0; argument bytes that do not fit a
known code are refused with BAD_ARGUMENT, detail 255, before any other test. Neither changes state. Every
request is executed and answered with its code and tag; one that is not answered DONE has changed
nothing. -/
def Obligations.RequestsTurnedAway : Prop :=
  (∀ c (s : State), s.mgmt.holder.isSome = true →
     (c.request?.isSome = true ∨ ∃ t, c = .requestDropped t) →
     exec c s = .next
       { s with
         now := max s.now c.time,
         port := { s.port with rx := .idleWait, burst := [], quietSince := max s.now c.time },
         mgmt := { s.mgmt with
           dropped := min (s.mgmt.dropped + 1) 65535, droppedNotice := true } }) ∧
  (∀ (s : State), s.mgmt.holder = none →
     (∀ t code tag args, exec (.unknown t code tag args) s =
       answered code tag { result := .unknown, detail := 0, data := [] } (arrive t s) (arrive t s)) ∧
     (∀ c code tag args, c.wf = true → c.request? = some (code, tag, args) →
       argumentsFit code args = false →
       exec c s = answered code tag { result := .badArgument, detail := 255, data := [] }
         (arrive c.time s) (arrive c.time s))) ∧
  (∀ c code tag args (s : State), c.request? = some (code, tag, args) → s.mgmt.holder = none →
     ∃ a s', exec c s = answered code tag a (arrive c.time s) s' ∧
       (a.result ≠ .done → s' = arrive c.time s))

/-- R165, R169, R170: a reply waits in the holder while cycles run; before that it is owed at once, and
leaves at once in an immediate UPLINK when the transmitter is IDLE, or when it falls to IDLE. That a TRANSMIT_DONE with the
transmitter IDLE changes only the clock is the model's choice: log entry 22. -/
def Obligations.RepliesLeave : Prop :=
  (∀ (r : Reply) (s : State),
     (s.pacing.state = .tracking ∨ s.pacing.state = .freewheel ∨ s.pacing.state = .halted →
       placeReply r s = { s with mgmt := { s.mgmt with holder := some r } }) ∧
     (s.pacing.state = .listen ∨ s.pacing.state = .acquire ∨ s.pacing.state = .confirm →
       (s.port.tx.sending = true →
         placeReply r s = { s with
           mgmt := { s.mgmt with holder := some r }, port := { s.port with replyOwed := true } }) ∧
       (s.port.tx.sending = false →
         placeReply r s = { s with
           mgmt := { s.mgmt with holder := none, droppedNotice := false },
           port := { s.port with
             replyOwed := false, clampNotice := false,
             tx :=
               { sending := true, since := s.now,
                 frame := uplinkFrame { s with mgmt := { s.mgmt with holder := some r } } [] } } }))) ∧
  (∀ t (s : State),
     (s.port.tx.sending = false → exec (.transmitDone t) s = .next { s with now := max s.now t }) ∧
     (s.port.tx.sending = true →
       (s.port.replyOwed = false →
         exec (.transmitDone t) s = .next { s with
           now := max s.now t,
           port := { s.port with tx := { s.port.tx with sending := false, frame := [] } } }) ∧
       (s.port.replyOwed = true →
         (s.pacing.state = .listen ∨ s.pacing.state = .acquire ∨ s.pacing.state = .confirm →
           exec (.transmitDone t) s = .next { s with
             now := max s.now t,
             mgmt := { s.mgmt with holder := none, droppedNotice := false },
             port := { s.port with
               replyOwed := false, clampNotice := false,
               tx := { sending := true, since := max s.now t, frame := uplinkFrame s [] } } }) ∧
         (s.pacing.state = .tracking ∨ s.pacing.state = .freewheel ∨ s.pacing.state = .halted →
           exec (.transmitDone t) s = .next { s with
             now := max s.now t,
             port := { s.port with
               replyOwed := false,
               tx := { s.port.tx with sending := false, frame := [] } } }))))

/-! ## The UPLINK -/

/-- R163, R187, R188, R195, R199: the bytes of an UPLINK, field by field, and its length: the delimiter, the
kind, the length of the payload, the header, the echo of index and serial, the item count, each item's
kind, operand and values, the reply's tag, code, result, detail, serial and data, and the CRC-16. A
per-cycle UPLINK has as many items as the report width, and a position carries the matching entry with the
lowest number, or NULL where none matches, with an operand byte that is a free value. The model's choices:
that byte (log entry 34) and the class of a SLOT item whose buffer is EMPTY (log entry 27). -/
def Obligations.UplinkItems : Prop :=
  (∀ (s : State) (items : List (ItemKind × Nat)),
     let payload := uplinkContent s items
     let body := packed [(1, 0x81), (1, (payload.length : Int))] ++ payload
     uplinkFrame s items = packed [(1, 0x7E)] ++ body ++ packed [(2, (crc16 body).toNat)]) ∧
  (∀ (s : State) (items : List (ItemKind × Nat)),
     (uplinkFrame s items).length = 15 + (items.map fun p => 2 + itemLength p.1).sum +
       (match s.mgmt.holder with
         | some r => 8 + r.answer.data.length
         | none => 0)) ∧
  (∀ s : State, (cycleItems s).length = s.store.cell.reportWidth ∧
     ∀ position < s.store.cell.reportWidth, ∀ item, (cycleItems s)[position]? = some item →
       (∃ (j : Nat) (e : SchedEntry), s.store.schedule[j]? = some e ∧
         entryMatches s.pacing.index position e ∧
         item = (e.kind, e.operand) ∧
         ∀ k < j, ∀ e' : SchedEntry, s.store.schedule[k]? = some e' →
           ¬ entryMatches s.pacing.index position e') ∨
       (item.1 = .null ∧ item.2 < 256 ∧
         ∀ e ∈ s.store.schedule, ¬ entryMatches s.pacing.index position e))

/-- R185, R190, R199: every field of the status header, the states by the codes of R199. -/
def Obligations.StatusHeaderFields : Prop :=
  ∀ s : State, s.report.queue.length ≤ 32 →
    let h := statusHeader s
    h < 2 ^ 32 ∧ h / 2 ^ 29 = codeIn pacingOrder s.pacing.state ∧
    (h.testBit 28 = true ↔ s.mgmt.mode = .operate) ∧ h.testBit 27 = s.pacing.haltPending ∧
    (h.testBit 26 = true ↔ ∃ b < 18,
      s.report.faults.getLsbD b = true ∧ s.store.cell.attention.getLsbD b = true) ∧
    (h.testBit 25 = true ↔ ∃ b < 18, s.report.faults.getLsbD b = true) ∧
    h.testBit 24 = s.report.faults.getLsbD 4 ∧ h / 2 ^ 18 % 64 = s.report.queue.length ∧
    h.testBit 17 = s.mgmt.droppedNotice ∧ h.testBit 16 = s.port.clampNotice ∧
    (h.testBit 15 = true ↔ 0 < s.demand.age) ∧ h.testBit 14 = s.check.running ∧
    h / 2 ^ 11 % 8 = codeIn groupOrder (s.group 0).state ∧
    h / 2 ^ 8 % 8 = codeIn groupOrder (s.group 1).state ∧ h % 2 ^ 8 = 0

/-- R163, R164, R166, R189: the per-cycle UPLINK is skipped while the transmitter is SENDING; otherwise
it is put on the line, the holder and the notices are emptied, and so is the buffer of each slot that a
SLOT item names. -/
def Obligations.PerCycleUplink : Prop :=
  ∀ s : State,
    (s.port.tx.sending = true → perCycleUplink s =
      { s with port := { s.port with uplinkSkips := min (s.port.uplinkSkips + 1) 65535 } }) ∧
    (s.port.tx.sending = false →
      ∃ segs : Two Segment,
        perCycleUplink s = { s with
          segs := segs, mgmt := { s.mgmt with holder := none, droppedNotice := false },
          port := { s.port with
            clampNotice := false,
            tx := { sending := true, since := s.now, frame := uplinkFrame s (cycleItems s) } } } ∧
        ∀ g : Seg, segs.get g.num = { s.seg g with slots := (segs.get g.num).slots } ∧
          ∀ k, (segs.get g.num).slots.get k = { s.slot g k with
              buffer := ((segs.get g.num).slots.get k).buffer } ∧
            ((∃ n, (ItemKind.slot, n) ∈ cycleItems s ∧ slotOfOperand n = (g, k)) →
              ((segs.get g.num).slots.get k).buffer = none) ∧
            (¬ (∃ n, (ItemKind.slot, n) ∈ cycleItems s ∧ slotOfOperand n = (g, k)) →
              ((segs.get g.num).slots.get k).buffer = (s.slot g k).buffer))

/-! ## Loads -/

/-- R173: in OPERATE a load with fitting arguments is refused with WRONG_MODE, detail 0, and no command but
HARD_RESET changes a record the loads write; the schedule table is taken in either mode. -/
def Obligations.LoadsNeedConfig : Prop :=
  (∀ c code tag args (s : State), c.wf = true → c.request? = some (code, tag, args) →
     code ∈ ([0x01, 0x02, 0x03, 0x04, 0x05] : List Byte) → argumentsFit code args = true →
     s.mgmt.holder = none → s.mgmt.mode = .operate →
     exec c s = answered code tag { result := .wrongMode, detail := 0, data := [] }
       (arrive c.time s) (arrive c.time s)) ∧
  (∀ c s t, (∀ n, c ≠ .hardReset n) → s.mgmt.mode = .operate → exec c s = .next t →
     t.store = { s.store with schedule := t.store.schedule })

/-- R174, R175: in CONFIG a LOAD_CELL in range replaces the cell record and nothing else; the first field
out of its range refuses it with the field's number. -/
def Obligations.LoadCell : Prop :=
  ∀ t tag (s : State), s.mgmt.holder = none → s.mgmt.mode = .config →
    let widths := [2, 1, 1, 1, 2, 2, 2, 1, 1, 1, 1, 1, 3]
    (∀ c : CellRec, CellFits c → exec (.loadCell t tag (packed (cellFields c))) s =
      answered 0x01 tag { result := .done, detail := 0, data := [] } (arrive t s)
        { arrive t s with store := { s.store with cell := c } }) ∧
    (∀ v n, argumentsSized 1 widths v → firstFails (cellCheck v) n →
      exec (.loadCell t tag (arguments 1 widths v)) s =
        answered 0x01 tag { result := .badArgument, detail := n, data := [] }
          (arrive t s) (arrive t s))

/-- R31: in CONFIG a LOAD_ROADLOAD that passes replaces the rows and the band and nothing else; a row count
out of range refuses it with detail 0, the first bad row with its number, counted from 1, a band out of
range with 25. -/
def Obligations.LoadRoadload : Prop :=
  ∀ t tag (table : RoadTable) (s : State), s.mgmt.holder = none → s.mgmt.mode = .config →
    let args := packed ((1, (table.rows.length : Int)) :: table.rows.flatMap rowFields
      ++ [(3, (table.band : Int))])
    (RoadFits table → exec (.loadRoadload t tag args) s =
      answered 0x02 tag { result := .done, detail := 0, data := [] } (arrive t s)
        { arrive t s with store := { s.store with road := table } }) ∧
    (∀ n, table.rows.length < 256 → (∀ r ∈ table.rows, r.speed < 2 ^ 24 ∧ r.force < 2 ^ 16) →
      table.band < 2 ^ 24 → firstFails (roadCheck table) n →
      exec (.loadRoadload t tag args) s =
        answered 0x02 tag { result := .badArgument, detail := n, data := [] }
          (arrive t s) (arrive t s))

/-- R5: in CONFIG a LOAD_STATION with present "yes" and fields in range replaces the record and puts the
station into WAITING with its limits derived again; with present "no" the record takes its reset values
and the station goes to ABSENT. The plausibility count and the init values are kept. The first field that
fails its check refuses the load with its number. -/
def Obligations.LoadStation : Prop :=
  ∀ t tag (s : State), s.mgmt.holder = none → s.mgmt.mode = .config →
    let widths := [1, 1, 3, 3, 1, 2, 2, 3, 3, 4, 1, 4, 1, 1, 3, 3, 2]
    (∀ (i : Fin 4) r, StationFits r →
      exec (.loadStation t tag (packed ((1, (i.val : Int)) :: stationFields r))) s =
        answered 0x03 tag { result := .done, detail := 0, data := [] } (arrive t s)
          { arrive t s with
            store := { s.store with stations := s.store.stations.set i r },
            stations := s.stations.set i
              { state := .waiting, reason := .none, speed := none, accel := 0, stale := 0,
                overspeed := 0, plausibility := (s.station i).plausibility, status := none,
                torque := none, init := (s.station i).init,
                torqueLimit := torqueLimitOf r (s.station i).init,
                overspeedLimit := overspeedLimitOf r (s.station i).init, slewMemory := 0,
                ring := [] } }) ∧
    (∀ (i : Fin 4) v, argumentsSized 0 widths v → v 0 = i.val → v 1 = 0 →
      exec (.loadStation t tag (arguments 0 widths v)) s =
        answered 0x03 tag { result := .done, detail := 0, data := [] } (arrive t s)
          { arrive t s with
            store := { s.store with
              stations := s.store.stations.set i (State.reset.store.stations.get i) },
            stations := s.stations.set i
              { State.reset.station i with
                plausibility := (s.station i).plausibility, init := (s.station i).init } }) ∧
    (∀ v n, argumentsSized 0 widths v → firstFails (stationCheck v) n →
      exec (.loadStation t tag (arguments 0 widths v)) s =
        answered 0x03 tag { result := .badArgument, detail := n, data := [] }
          (arrive t s) (arrive t s))

/-- R41: in CONFIG a LOAD_GROUP whose fields are in range, and none of whose members is in the other
group, replaces the record and puts the runtime record at its RESTART values; the first field that fails
its check refuses it with its number. At which field a relation of two fields is checked is the model's
reading: log entry 18. -/
def Obligations.LoadGroup : Prop :=
  ∀ t tag (s : State), s.mgmt.holder = none → s.mgmt.mode = .config →
    let widths := [1, 1, 1, 1, 2, 2, 3, 2, 1, 1, 2, 3, 3, 3, 1, 1, 2, 3, 2, 1]
    (∀ (g other : Fin 2) (r : GroupRec), GroupFits r → other ≠ g →
      (∀ i, isMember r i = true → isMember (s.store.groups.get other) i = false) →
      exec (.loadGroup t tag (packed ((1, (g.val : Int)) :: groupFields r))) s =
        answered 0x04 tag { result := .done, detail := 0, data := [] } (arrive t s)
          { arrive t s with
            store := { s.store with groups := s.store.groups.set g r },
            groups := s.groups.set g (State.reset.group g) }) ∧
    (∀ (other : Fin 2) v n, argumentsSized 0 widths v → other.val ≠ v 0 →
      firstFails (groupCheck (s.store.groups.get other).members v) n →
      exec (.loadGroup t tag (arguments 0 widths v)) s =
        answered 0x04 tag { result := .badArgument, detail := n, data := [] }
          (arrive t s) (arrive t s))

/-- R129: in CONFIG, with the segment DOWN or JAMMED, a LOAD_SLOT in range whose station no other enabled
slot names replaces the record; one that is not enabled takes the reset values. The buffer is emptied,
the last class NONE, the error count kept. A segment number above 1, a segment in BOOT or UP, and the first
check of the fields that fails refuse it. -/
def Obligations.LoadSlot : Prop :=
  ∀ t tag (s : State), s.mgmt.holder = none → s.mgmt.mode = .config →
    let widths := [1, 1, 1, 1, 1, 2, 2]
    let placed (g : Seg) (k : Fin 4) (r : SlotRec) : State := { arrive t s with
      store := { s.store with
        slots := s.store.slots.set g.num ((s.store.slots.get g.num).set k r) },
      segs := s.segs.set g.num { s.seg g with
        slots := (s.seg g).slots.set k { s.slot g k with buffer := none, lastClass := .none } } }
    let done (args : List Byte) (u : State) : Prop := exec (.loadSlot t tag args) s =
      answered 0x05 tag { result := .done, detail := 0, data := [] } (arrive t s) u
    let refused (args : List Byte) (result : ResultCode) (n : Nat) : Prop :=
      exec (.loadSlot t tag args) s =
        answered 0x05 tag { result := result, detail := n, data := [] } (arrive t s) (arrive t s)
    (∀ v, argumentsSized 0 widths v → 1 < v 0 → refused (arguments 0 widths v) .badArgument 0) ∧
    ∀ g : Seg,
      (∀ v, argumentsSized 0 widths v → v 0 = g.num.val →
        (s.seg g).state = .boot ∨ (s.seg g).state = .up →
        refused (arguments 0 widths v) .wrongState 19) ∧
      ((s.seg g).state = .down ∨ (s.seg g).state = .jammed →
        (∀ (k : Fin 4) r, SlotFits r →
          (∀ g' k', slotNames s.store (g', k') r.station → g' = g ∧ k' = k) →
          done (packed ([(1, (g.num.val : Int)), (1, (k.val : Int) + 1)] ++ slotFields r))
            (placed g k r)) ∧
        (∀ (k : Fin 4) v, argumentsSized 0 widths v → v 0 = g.num.val → v 1 = k.val + 1 → v 2 = 0 →
          done (arguments 0 widths v) (placed g k
            { enabled := false, station := 0, address := 0, earliest := 0, close := 0 })) ∧
        (∀ v m, argumentsSized 0 widths v → v 0 = g.num.val →
          firstFails (fun j => (slotCheck s.store g v j).2) m →
          refused (arguments 0 widths v) .badArgument (slotCheck s.store g v m).1))

/-- R186: in either mode a LOAD_SCHEDULE in range replaces one entry; one that is not enabled takes the
reset values; the first field that fails its check refuses it with its number. -/
def Obligations.LoadSchedule : Prop :=
  ∀ t tag (s : State), s.mgmt.holder = none →
    let widths := [1, 1, 1, 1, 1, 1, 1]
    let placed (n : Nat) (e : SchedEntry) : State := { arrive t s with
      store := { s.store with schedule := s.store.schedule.set n e } }
    (∀ (n : Nat) e, n ≤ 15 → EntryFits e →
      exec (.loadSchedule t tag (packed ((1, (n : Int)) :: entryFields e))) s =
        answered 0x06 tag { result := .done, detail := 0, data := [] } (arrive t s) (placed n e)) ∧
    (∀ v, argumentsSized 0 widths v → v 0 ≤ 15 → v 1 = 0 →
      exec (.loadSchedule t tag (arguments 0 widths v)) s =
        answered 0x06 tag { result := .done, detail := 0, data := [] } (arrive t s)
          (placed (v 0) { enabled := false, kind := .null, operand := 0, position := 0,
                          repetition := 1, offset := 0 })) ∧
    (∀ v n, argumentsSized 0 widths v → firstFails (entryCheck v) n →
      exec (.loadSchedule t tag (arguments 0 widths v)) s =
        answered 0x06 tag { result := .badArgument, detail := n, data := [] }
          (arrive t s) (arrive t s))

/-! ## Reads -/

/-- R101, R176, R177, R200: READ_TABLE, READ_RUNTIME and READ_CHECK change nothing but the reply holder and
return the records below, field by field; a selector that names nothing is refused with detail 1, an
operand out of range with detail 2. The codes and the form that R200 does not state are free values (log
entry 6); the widths it does not state, the codes of the last-check result, and an EMPTY buffer and a
pending SYNC of none as optional fields are the model's readings (log entries 7, 36 and 39). -/
def Obligations.Reads : Prop :=
  ∀ t tag (selector operand : Byte) (s : State), s.mgmt.holder = none →
    let m := arrive t s
    let n := selector.toNat
    let k := operand.toNat
    exec (.readTable t tag [selector, operand]) s =
      answered 0x10 tag
        (readAnswered [(0, 0), (1, 24), (0, 3), (0, 1), (0, 7), (0, 15)]
          (packed (tableFields s.store n k)) n k) m m ∧
    exec (.readRuntime t tag [selector, operand]) s =
      answered 0x11 tag
        (readAnswered [(0, 0), (0, 0), (0, 0), (0, 0), (0, 3), (0, 3), (0, 1), (0, 1), (0, 1), (0, 7)]
          (packed (runtimeFields m n k)) n k) m m ∧
    exec (.readCheck t tag []) s =
      answered 0x13 tag
        { result := .done, detail := 0,
          data := packed (contextFields s.check ++ lastCheckFields s.lastCheck) } m m

/-- R192, R194, R200: READ_EVENTS removes the oldest records, up to four, and returns them, oldest first and
field by field, with the depth that remains. The code of an abort without a reason, which no run writes, is
the model's choice: log entry 25. -/
def Obligations.ReadEvents : Prop :=
  ∀ t tag (s : State), s.mgmt.holder = none →
    exec (.readEvents t tag []) s =
      answered 0x12 tag
        { result := .done, detail := min 4 s.report.queue.length,
          data := packed ((s.report.queue.take 4).flatMap eventRecord
            ++ [(1, ((s.report.queue.length - 4 : Nat) : Int))]) }
        (arrive t s)
        { arrive t s with report := { s.report with queue := s.report.queue.drop 4 } }

/-! ## Mode, RESTART, HALT and STOP -/

/-- R178, R179: ENTER_OPERATE in OPERATE changes nothing; in CONFIG it enters OPERATE with a MODE event
when every check of the store holds, and is refused with the first check that fails otherwise. That check 5
also refuses a group of kind LEADER without members is the model's reading: log entry 24. -/
def Obligations.EnterOperate : Prop :=
  ∀ t tag (s : State), s.mgmt.holder = none →
    (s.mgmt.mode = .operate → exec (.enterOperate t tag []) s =
      answered 0x20 tag { result := .done, detail := 1, data := [] } (arrive t s) (arrive t s)) ∧
    (s.mgmt.mode = .config → StoreReady s.store → exec (.enterOperate t tag []) s =
      answered 0x20 tag { result := .done, detail := 0, data := [] } (arrive t s)
        (writeEvent (.mode .operate) { arrive t s with mgmt := { s.mgmt with mode := .operate } })) ∧
    (s.mgmt.mode = .config → ∀ n, ¬ storeCheck s.store n → (∀ m < n, storeCheck s.store m) →
      ∃ data, StoreItem s.store n data ∧ exec (.enterOperate t tag []) s =
        answered 0x20 tag { result := .tableCheck, detail := n, data := data }
          (arrive t s) (arrive t s))

/-- R66, R180: ENTER_CONFIG in CONFIG changes nothing; in OPERATE it is refused for the lowest engaged
group, then for the lowest station under DIRECT; otherwise it enters CONFIG, opens each BROKEN group and
makes every set-point SAFE, with the MODE event before the GROUP events. That a BROKEN group keeps its counts and metrics is the
model's reading: log entry 29. -/
def Obligations.EnterConfig : Prop :=
  ∀ t tag (s : State), s.mgmt.holder = none →
    (s.mgmt.mode = .config → exec (.enterConfig t tag []) s =
      answered 0x21 tag { result := .done, detail := 1, data := [] } (arrive t s) (arrive t s)) ∧
    (s.mgmt.mode = .operate →
      (∀ g : Fin 2, engaged (s.group g) = true → (∀ g' < g, engaged (s.group g') = false) →
        exec (.enterConfig t tag []) s =
          answered 0x21 tag { result := .wrongState, detail := 17, data := beBytes 1 g.val }
            (arrive t s) (arrive t s)) ∧
      ((∀ g, engaged (s.group g) = false) →
        (∀ i : Fin 4, (s.direct i).active = true → (∀ j < i, (s.direct j).active = false) →
          exec (.enterConfig t tag []) s =
            answered 0x21 tag { result := .wrongState, detail := 18, data := beBytes 1 i.val }
              (arrive t s) (arrive t s)) ∧
        ((∀ i, (s.direct i).active = false) →
          exec (.enterConfig t tag []) s =
            answered 0x21 tag { result := .done, detail := 0, data := [] } (arrive t s)
              { writeEvents (.mode .config ::
                  groupEvents (fun x => decide (x.state = .broken)) .config s) (arrive t s) with
                mgmt := { s.mgmt with mode := .config },
                groups := Two.tabulate fun g =>
                  if (s.group g).state = .broken then
                    { s.group g with state := .opened, reason := .config }
                  else s.group g,
                setpoints := Four.tabulate fun _ =>
                  { torque := 0, source := .safe, limited := false, slewed := false,
                    serial := s.pacing.serial },
                stations := Four.tabulate fun i => { s.station i with slewMemory := 0 } })))

/-- R181, R182: RESTART ends every DIRECT and a running check, writes RESTARTED after their events, and
puts the running machines at their RESTART values; all else is kept. That what a drive does on a line is
kept too is the model's choice: log entry 5. -/
def Obligations.Restart : Prop :=
  ∀ t tag (s : State), s.mgmt.holder = none →
    let w := writeEvents (directEnds s ++ checkAborts .restart s ++ [.restarted]) (arrive t s)
    exec (.restart t tag []) s =
      answered 0x22 tag { result := .done, detail := 0, data := [] } (arrive t s)
        { w with
          mgmt := { s.mgmt with mode := .config },
          pacing := { s.pacing with
            state := .listen, haltReason := .none, anchor := none, confirm := 0, missed := 0,
            goodRun := 0, haltPending := false, period := s.store.cell.period,
            tol := s.store.cell.tol, offset := s.store.cell.computeOffset, cpDue := none },
          segs := Two.tabulate fun g =>
            { s.segs.get g with
              state := .down, reason := .none, bootCount := 0, withheld := 0, pendingSync := none,
              replySlot := none,
              slots := Four.tabulate fun k =>
                { (s.segs.get g).slots.get k with
                  lastClass := .none, buffer := none, window := none } },
          stations := Four.tabulate fun i =>
            { StationRt.reset with
              state := if (s.store.stations.get i).present then .waiting else .absent,
              plausibility := (s.station i).plausibility,
              torqueLimit := (if (s.store.stations.get i).present then
                (s.store.stations.get i).torqueLimit else 0),
              overspeedLimit := (if (s.store.stations.get i).present then
                (s.store.stations.get i).overspeed else 0) },
          groups := ⟨GroupRt.reset, GroupRt.reset⟩,
          directs := Four.tabulate fun i =>
            { directEnded .restart (s.direct i) with torque := 0, remaining := 0, active := false },
          check := { s.check with running := false },
          lastCheck := abortedRecord .restart s,
          setpoints := Four.tabulate fun _ =>
            { torque := 0, source := .safe, limited := false, slewed := false,
              serial := s.pacing.serial },
          demand :=
            { mode := .coast, target := 0, mass := 1500, age := 0, lost := false,
              prevMode := .coast },
          report := { w.report with faults := 0 } }

/-- R119, R121: HALT and STOP by the pacing state at the taking. STOP enters HALTED at once; the next local
cycle-begin is the first whole number of periods after the anchor, at least one, that is later than the
taking. -/
def Obligations.HaltAndStop : Prop :=
  (∀ t tag (s : State), s.mgmt.holder = none →
     (s.pacing.state = .listen → exec (.halt t tag []) s =
       answered 0x30 tag { result := .wrongState, detail := 16, data := [] }
         (arrive t s) (arrive t s)) ∧
     (s.pacing.state ≠ .listen → s.pacing.state ≠ .halted → exec (.halt t tag []) s =
       answered 0x30 tag { result := .done, detail := 0, data := [] } (arrive t s)
         { arrive t s with pacing := { s.pacing with haltPending := true } }) ∧
     (s.pacing.state = .halted → exec (.halt t tag []) s =
       answered 0x30 tag { result := .done, detail := 0, data := [] } (arrive t s) (arrive t s))) ∧
  (∀ t tag (s : State), s.mgmt.holder = none →
     (s.pacing.state = .listen → exec (.stop t tag []) s =
       answered 0x31 tag { result := .wrongState, detail := 16, data := [] }
         (arrive t s) (arrive t s)) ∧
     (s.pacing.state = .halted → exec (.stop t tag []) s =
       answered 0x31 tag { result := .done, detail := 0, data := [] } (arrive t s) (arrive t s)) ∧
     (∀ a n due, s.pacing.state ≠ .listen → s.pacing.state ≠ .halted → s.pacing.anchor = some a →
       0 < s.pacing.period → 1 ≤ n → due = a + n * (25 * s.pacing.period) → max s.now t < due →
       (∀ m, 1 ≤ m → m < n → a + m * (25 * s.pacing.period) ≤ max s.now t) → a ≤ max s.now t →
       exec (.stop t tag []) s =
         answered 0x31 tag { result := .done, detail := 0, data := [] } (arrive t s)
           (enterHalted .stopRequest false
             { arrive t s with pacing := { s.pacing with localDue := due } })))

/-- R65, R122: every entry to HALTED. The state and the reason are recorded; every DIRECT ends with cause
HALT, a running check ABORTED, every engaged group goes to OPEN, in the order of their events; then the
entry, and the cycle-begin where there is one, is handed to the Segment Controllers. -/
def Obligations.HaltedEntry : Prop :=
  ∀ reason cycle (s : State), reason ≠ .none →
    let w := writeEvents (.pacing (haltEventReason reason) :: directEnds s ++ checkAborts .halt s
      ++ groupEvents engaged .halt s) s
    enterHalted reason cycle s = bothSegments true cycle
      { w with
        pacing := { s.pacing with state := .halted, haltReason := reason, haltPending := false },
        directs := Four.tabulate fun i => directEnded .halt (s.direct i),
        check := { s.check with running := false },
        lastCheck := abortedRecord .halt s,
        groups := Two.tabulate fun g =>
          if engaged (s.group g) then
            { s.group g with
              state := .opened, reason := .halt, c := 0, inBand := 0, elapsed := 0, slipRun := 0,
              recoverRun := 0, slipCycles := 0, aEff := 0, ramped := none,
              integrator := Four.tabulate fun _ => 0, force := Four.tabulate fun _ => 0 }
          else s.group g,
        report := { w.report with
          faults := w.report.faults ||| (if reason = .cellSilent then 0x2 else 0) } }

/-! ## Groups, the coupling check, DIRECT and faults -/

/-- R62, R63: the checks of ENGAGE in their order, and what one that passes them does. -/
def Obligations.Engage : Prop :=
  ∀ t tag (n : Byte) (s : State), s.mgmt.holder = none →
    let refused (result : ResultCode) (detail : Nat) : Prop :=
      exec (.engage t tag [n]) s =
        answered 0x40 tag { result := result, detail := detail, data := [] } (arrive t s) (arrive t s)
    (1 < n.toNat → refused .badArgument 0) ∧
    (n.toNat ≤ 1 → s.mgmt.mode = .config → refused .wrongMode 0) ∧
    (∀ g : Fin 2, n.toNat = g.val → s.mgmt.mode = .operate →
      ((s.group g).state ≠ .opened → refused .wrongState 17) ∧
      ((s.group g).state = .opened →
        ((s.store.groups.get g).members = 0 → refused .badArgument 1) ∧
        ((s.store.groups.get g).members ≠ 0 →
          (running s = false → refused .wrongState 16) ∧
          (running s = true →
            (∀ i : Fin 4, isMember (s.store.groups.get g) i = true → (s.station i).state ≠ .live →
              (∀ j < i, isMember (s.store.groups.get g) j = true → (s.station j).state = .live) →
              refused .wrongState i.val) ∧
            ((∀ i, isMember (s.store.groups.get g) i = true → (s.station i).state = .live) →
              (∀ i : Fin 4, isMember (s.store.groups.get g) i = true → (s.direct i).active = true →
                (∀ j < i, isMember (s.store.groups.get g) j = true →
                  (s.direct j).active = false) →
                refused .busy i.val) ∧
              ((∀ i, isMember (s.store.groups.get g) i = true → (s.direct i).active = false) →
                exec (.engage t tag [n]) s =
                  answered 0x40 tag { result := .done, detail := 0, data := [] } (arrive t s)
                    (writeEvent (.group g .engage (s.group g).maxError)
                      { arrive t s with
                        groups := s.groups.set g { s.group g with
                          state := .capturing, reason := .engage, c := 0, inBand := 0,
                          elapsed := 0, slipRun := 0, recoverRun := 0, slipCycles := 0,
                          ramped := none, integrator := Four.tabulate fun _ => 0 } })))))))

/-- R64, R99: RELEASE of an OPEN group changes nothing; any other group goes to OPEN, after a check
running on it has ended ABORTED. -/
def Obligations.Release : Prop :=
  ∀ t tag (n : Byte) (s : State), s.mgmt.holder = none →
    (1 < n.toNat → exec (.release t tag [n]) s =
      answered 0x41 tag { result := .badArgument, detail := 0, data := [] }
        (arrive t s) (arrive t s)) ∧
    (∀ g : Fin 2, n.toNat = g.val →
      ((s.group g).state = .opened → exec (.release t tag [n]) s =
        answered 0x41 tag { result := .done, detail := 0, data := [] } (arrive t s) (arrive t s)) ∧
      ((s.group g).state ≠ .opened →
        let ends := decide (s.check.group = g)
        exec (.release t tag [n]) s =
          answered 0x41 tag { result := .done, detail := 0, data := [] } (arrive t s)
            { writeEvents ((if ends then checkAborts .release s else [])
                ++ [.group g .release (s.group g).maxError]) (arrive t s) with
              check := if ends then { s.check with running := false } else s.check,
              lastCheck := if ends then abortedRecord .release s else s.lastCheck,
              groups := s.groups.set g { s.group g with
                state := .opened, reason := .release, c := 0, inBand := 0, elapsed := 0,
                slipRun := 0, recoverRun := 0, slipCycles := 0, aEff := 0, ramped := none,
                integrator := Four.tabulate fun _ => 0, force := Four.tabulate fun _ => 0 } }))

/-- R90, R91, R97, R98: the first of checks 1 to 6 that fails refuses a START_CHECK with its number; one in
range, in OPERATE, of a LOCKED group, with the context IDLE and a station that is a member but no leader,
writes the whole context and nothing else; the state checks refuse in their order. ABORT_CHECK ends a
running check with reason ABORT_REQUEST and detail 1; with the context IDLE nothing changes and the detail
is 0. -/
def Obligations.StartAndAbortCheck : Prop :=
  (∀ t tag v n (s : State), s.mgmt.holder = none → argumentsSized 0 [1, 1, 2, 1, 1, 2, 3] v →
     firstFails (probeCheck v) n →
     exec (.startCheck t tag (arguments 0 [1, 1, 2, 1, 1, 2, 3] v)) s =
       answered 0x50 tag { result := .badArgument, detail := n, data := [] }
         (arrive t s) (arrive t s)) ∧
  (∀ t tag (g : Fin 2) (i : Fin 4) (pattern : BitVec 16) (length step offset band : Nat) (s : State),
     s.mgmt.holder = none → 8 ≤ length → length ≤ 16 → step ∈ [1, 2, 4, 8] → 1 ≤ offset →
     offset ≤ 5000 → band ≤ 10000000 →
     let c : Instr := .startCheck t tag (packed [(1, g.val), (1, i.val), (2, pattern.toNat),
       (1, length), (1, step), (2, offset), (3, band)])
     let refused (result : ResultCode) (detail : Nat) : Prop :=
       exec c s = answered 0x50 tag { result := result, detail := detail, data := [] }
         (arrive t s) (arrive t s)
     (s.mgmt.mode = .config → refused .wrongMode 0) ∧
     (s.mgmt.mode = .operate →
       ((s.group g).state ≠ .locked → refused .wrongState 17) ∧
       ((s.group g).state = .locked →
         (s.check.running = true → refused .busy s.check.group.val) ∧
         (s.check.running = false →
           let r := s.store.groups.get g
           (isMember r i = false ∨ (r.kind = .leader ∧ r.leader = i) → refused .badArgument 1) ∧
           (isMember r i = true → ¬ (r.kind = .leader ∧ r.leader = i) →
             exec c s = answered 0x50 tag { result := .done, detail := 0, data := [] } (arrive t s)
               { arrive t s with
                 check :=
                   { running := true, group := g, station := i, pattern := pattern,
                     length := length, step := step, offset := offset, band := band, elapsed := 0,
                     peak := 0 } }))))) ∧
  (∀ t tag (s : State), s.mgmt.holder = none →
     (s.check.running = true →
       exec (.abortCheck t tag []) s =
         answered 0x51 tag { result := .done, detail := 1, data := [] } (arrive t s)
           (writeEvent (.check s.check.group (.aborted .abortRequest) s.check.peak)
             { arrive t s with
               check := { s.check with running := false },
               lastCheck :=
                 { result := .aborted, reason := .abortRequest, group := s.check.group,
                   station := s.check.station, length := s.check.length, step := s.check.step,
                   peak := s.check.peak, cycles := s.check.elapsed } })) ∧
     (s.check.running = false →
       exec (.abortCheck t tag []) s =
         answered 0x51 tag { result := .done, detail := 0, data := [] } (arrive t s) (arrive t s)))

/-- R80 to R82: the checks of DIRECT_TORQUE in their order. In OPERATE a duration of 0 ends the station's
DIRECT; another, where the checks pass, ends an active one as REPLACED and starts the new one, with the
torque as given. -/
def Obligations.DirectTorque : Prop :=
  ∀ t tag (n : Nat) (torque : Int) (duration : Nat) (s : State), s.mgmt.holder = none →
    n ≤ 255 → -(2 ^ 23) ≤ torque → torque < 2 ^ 23 → duration ≤ 65535 →
    let c : Instr := .directTorque t tag (packed [(1, n), (3, torque), (2, duration)])
    let refused (result : ResultCode) (detail : Nat) : Prop :=
      exec c s = answered 0x60 tag { result := result, detail := detail, data := [] }
        (arrive t s) (arrive t s)
    let done (u : State) : Prop :=
      exec c s = answered 0x60 tag { result := .done, detail := 0, data := [] } (arrive t s) u
    (3 < n → refused .badArgument 0) ∧
    (n ≤ 3 → s.mgmt.mode = .config → refused .wrongMode 0) ∧
    (∀ i : Fin 4, n = i.val → s.mgmt.mode = .operate →
      (duration = 0 →
        ((s.direct i).active = false → done (arrive t s)) ∧
        ((s.direct i).active = true →
          done (writeEvent (.direct i false) { arrive t s with
            directs := s.directs.set i { s.direct i with
              active := false, remaining := 0, endCause := .cancelled } }))) ∧
      (duration ≠ 0 → 300000 < torque.natAbs → refused .badArgument 1) ∧
      (duration ≠ 0 → torque.natAbs ≤ 300000 →
        (running s = false → refused .wrongState 16) ∧
        (running s = true →
          (liveOrStale (s.station i) = false → refused .wrongState 18) ∧
          (liveOrStale (s.station i) = true →
            (∀ g : Fin 2, isMember (s.store.groups.get g) i = true → engaged (s.group g) = true →
              (∀ g' < g, ¬ (isMember (s.store.groups.get g') i = true ∧
                engaged (s.group g') = true)) →
              refused .busy g.val) ∧
            ((∀ g, isMember (s.store.groups.get g) i = true → engaged (s.group g) = false) →
              done
                { writeEvents
                    ((if (s.direct i).active then [.direct i false] else []) ++ [.direct i true])
                    (arrive t s) with
                  directs := s.directs.set i
                    { active := true, torque := torque, remaining := duration,
                      endCause :=
                        if (s.direct i).active then .replaced else (s.direct i).endCause } })))))

/-- R21, R150, R191: CLEAR_FAULTS. A mask beyond bit 17 is refused with detail 1. A latched flag of the mask
stays, and is counted and returned, where its condition persists: CELL_SILENT while pacing is HALTED,
DEMAND_LOST while the demand age is above the hold, LOCK_BROKEN while its group is BROKEN; every other flag
of the mask is cleared, and EVENT_OVERRUN clears the overrun count. A JAMMED segment on an idle line goes to
DOWN; on a busy line its flag stays. A FAULTED station that passes its re-test goes to WAITING; one that
fails it stays as it is, its flag latched and returned. That the line is idle only 4 µs after a drive's
last character, for the jam test too, is the model's reading: log entry 35. -/
def Obligations.ClearFaults : Prop :=
  ∀ t tag (s : State), s.mgmt.holder = none →
    (∀ n : Nat, 2 ^ 18 ≤ n → n < 2 ^ 24 → exec (.clearFaults t tag (packed [(3, n)])) s =
      answered 0x70 tag { result := .badArgument, detail := 1, data := [] }
        (arrive t s) (arrive t s)) ∧
    (∀ mask : BitVec 18,
      (∀ g : Seg, mask.getLsbD (5 + g.num.val) = true → (s.seg g).state ≠ .jammed) →
      (∀ i : Fin 4, mask.getLsbD (11 + i.val) = true → (s.station i).state ≠ .faulted) →
      let stayed := (List.range 18).filter fun b =>
        mask.getLsbD b && s.report.faults.getLsbD b && flagPersists s b
      ∃ left : BitVec 18,
        (∀ b < 18, left.getLsbD b =
          (s.report.faults.getLsbD b && (!mask.getLsbD b || flagPersists s b))) ∧
        exec (.clearFaults t tag (packed [(3, mask.toNat)])) s =
          answered 0x70 tag
            { result := .done, detail := stayed.length,
              data := packed [(3, ((stayed.map fun b => 2 ^ b).sum : Nat))] }
            (arrive t s)
            { arrive t s with
              report := { s.report with
                faults := left,
                overruns := if mask.getLsbD 4 then 0 else s.report.overruns } }) ∧
    (∀ g : Seg, (s.seg g).state = .jammed →
      let mask : BitVec 18 := BitVec.twoPow 18 (5 + g.num.val)
      (quiet (max s.now t) (s.seg g) →
        exec (.clearFaults t tag (packed [(3, mask.toNat)])) s =
          answered 0x70 tag { result := .done, detail := 0, data := [0, 0, 0] } (arrive t s)
            (unlatch (.segJammed g) (writeEvent (.segment g .jamCleared)
              { arrive t s with segs := s.segs.set g.num (downSegment .jamCleared (s.seg g)) }))) ∧
      (¬ quiet (max s.now t) (s.seg g) → s.report.faults.getLsbD (5 + g.num.val) = true →
        exec (.clearFaults t tag (packed [(3, mask.toNat)])) s =
          answered 0x70 tag { result := .done, detail := 1, data := packed [(3, mask.toNat)] }
            (arrive t s) (arrive t s))) ∧
    (∀ i : Fin 4, (s.station i).state = .faulted →
      let mask : BitVec 18 := BitVec.twoPow 18 (11 + i.val)
      let x := s.station i
      let passes : Prop := stationSegState s i = some .up ∧
        (x.init.counts.isSome = true ∧ x.init.ratedTorque.isSome = true ∧
          x.init.ratedSpeed.isSome = true ∧ x.init.mark = .none) ∧
        (∀ b, x.status = some b → b.getLsbD 1 = false) ∧
        (∀ v, x.speed = some v → v.natAbs < x.overspeedLimit)
      (passes →
        exec (.clearFaults t tag (packed [(3, mask.toNat)])) s =
          answered 0x70 tag { result := .done, detail := 0, data := [0, 0, 0] } (arrive t s)
            { arrive t s with
              stations := s.stations.set i
                { State.reset.station i with
                  state := .waiting, plausibility := x.plausibility, init := x.init,
                  torqueLimit := torqueLimitOf (s.store.stations.get i) x.init,
                  overspeedLimit := overspeedLimitOf (s.store.stations.get i) x.init },
              report := { s.report with faults := s.report.faults &&& ~~~mask } }) ∧
      (¬ passes → s.report.faults.getLsbD (11 + i.val) = true →
        exec (.clearFaults t tag (packed [(3, mask.toNat)])) s =
          answered 0x70 tag { result := .done, detail := 1, data := packed [(3, mask.toNat)] }
            (arrive t s) (arrive t s)))

/-! ## Cycle pacing -/

/-- R108 to R111, R114, R120: a START in LISTEN, ACQUIRE and CONFIRM. The third good START is the first
cycle-begin: it moves pacing to TRACKING, or enters HALTED where a HALT is pending. That the confirm count
is then left as it was is the model's reading: log entry 11. That an interval longer than 4P, at which
SILENCE has come and has not been taken, is judged as any other bad interval is the model's choice: log
entry 13. -/
def Obligations.StartAcquiring : Prop :=
  ∀ t (index : BitVec 6) (s : State),
    let now := max s.now t
    let anchored : Pacing := { s.pacing with
      anchor := some now, index := index, period := s.store.cell.period, tol := s.store.cell.tol }
    (s.pacing.state = .listen → exec (.start t index) s = .next
      (writeEvent (.pacing .firstStart)
        { arrive t s with pacing := { anchored with state := .acquire } })) ∧
    (∀ a, s.pacing.anchor = some a → a ≤ now →
      let good := (25 * (s.pacing.period : Int) - 25 * s.pacing.tol ≤ (now : Int) - a ∧
        (now : Int) - a ≤ 25 * (s.pacing.period + s.pacing.tol)) ∧ index = s.pacing.index + 1
      (s.pacing.state = .acquire →
        (good → exec (.start t index) s = .next
          (writeEvent (.pacing .goodInterval)
            { arrive t s with pacing := { anchored with state := .confirm, confirm := 1 } })) ∧
        (¬ good → exec (.start t index) s = .next { arrive t s with pacing := anchored })) ∧
      (s.pacing.state = .confirm →
        (¬ good → exec (.start t index) s = .next
          (writeEvent (.pacing .badStart)
            { arrive t s with pacing := { anchored with state := .acquire, confirm := 0 } })) ∧
        (good → s.pacing.confirm + 1 < 3 → exec (.start t index) s = .next
          { arrive t s with pacing := { anchored with confirm := s.pacing.confirm + 1 } }) ∧
        (good → s.pacing.confirm + 1 = 3 → s.pacing.haltPending = false →
          exec (.start t index) s = .next (bothSegments false true
            (writeEvent (.pacing .confirmed)
              { arrive t s with
                pacing := { begun now index s.store.cell s.pacing with
                  state := .tracking, confirm := 3, missed := 0, goodRun := 0 } }))) ∧
        (good → s.pacing.confirm + 1 = 3 → s.pacing.haltPending = true →
          exec (.start t index) s = .next (enterHalted .haltRequest true
            { arrive t s with pacing := begun now index s.store.cell s.pacing }))))

/-- R113, R114, R116, R118, R120, R123: a START in TRACKING, FREEWHEEL and HALTED. CYCLE_EARLY is bit 0
of the fault register. That a CYCLE_SKEW event carries the new serial and stands before the PACING event is
the model's reading: log entry 19. That FREEWHEEL accepts an interval longer than P + tol too, at which the
missed cycle has come and has not been taken, is the model's choice: log entry 13. -/
def Obligations.StartRunning : Prop :=
  ∀ t (index : BitVec 6) (s : State),
    let now := max s.now t
    let early : State := { arrive t s with
      pacing := { s.pacing with early := min (s.pacing.early + 1) 65535 },
      report := { s.report with faults := s.report.faults ||| 0x1 } }
    let cycle : State := writeEvents
      (if index = s.pacing.index + 1 then []
        else [.cycleSkew (index - (s.pacing.index + 1)).toNat])
      { arrive t s with pacing := begun now index s.store.cell s.pacing }
    (s.pacing.state = .halted → exec (.start t index) s = .next
      { arrive t s with
        pacing := { s.pacing with ignored := min (s.pacing.ignored + 1) 65535 } }) ∧
    (∀ a, s.pacing.anchor = some a → a ≤ now →
      let elapsed : Int := (now : Int) - a
      let good := 25 * (s.pacing.period : Int) - 25 * s.pacing.tol ≤ elapsed ∧
        elapsed ≤ 25 * (s.pacing.period + s.pacing.tol)
      (s.pacing.state = .tracking →
        (elapsed < 25 * (s.pacing.period : Int) - 25 * s.pacing.tol →
          exec (.start t index) s = .next early) ∧
        (good → s.pacing.haltPending = false →
          exec (.start t index) s = .next (bothSegments false true cycle)) ∧
        (good → s.pacing.haltPending = true →
          exec (.start t index) s = .next (enterHalted .haltRequest true cycle))) ∧
      (s.pacing.state = .freewheel →
        (4 * elapsed < 25 * s.pacing.period → exec (.start t index) s = .next early) ∧
        (25 * s.pacing.period ≤ 4 * elapsed → s.pacing.haltPending = true →
          exec (.start t index) s = .next (enterHalted .haltRequest true cycle)) ∧
        (∀ n, 25 * s.pacing.period ≤ 4 * elapsed → s.pacing.haltPending = false →
          (good → n = s.pacing.goodRun + 1) → (¬ good → n = 0) →
          (n < s.store.cell.rejoinCount → exec (.start t index) s = .next
            (bothSegments false true
              { cycle with pacing := { cycle.pacing with goodRun := n } })) ∧
          (s.store.cell.rejoinCount ≤ n → exec (.start t index) s = .next
            (bothSegments false true (writeEvent (.pacing .rejoined)
              { cycle with
                pacing := { cycle.pacing with state := .tracking, missed := 0, goodRun := 0 } }))))))

/-- R112, R115, R117, R120, R123: the deadline of ACQUIRE and CONFIRM, a missed cycle in TRACKING and in
FREEWHEEL, with the missed limit reached or not and with a HALT pending, and the local cycle-begin of
HALTED; the first and the last, taken before their moment, change only the clock (the model's choice: log
entry 12). -/
def Obligations.Deadlines : Prop :=
  (∀ t (s : State),
    (∀ a, s.pacing.state = .acquire ∨ s.pacing.state = .confirm → s.pacing.anchor = some a →
      (a + 25 * (4 * s.pacing.period) ≤ max s.now t → exec (.silence t) s = .next
        (writeEvent (.pacing .silence)
          { s with
            now := max s.now t,
            pacing := { s.pacing with
              state := .listen, confirm := 0, anchor := none, haltPending := false } })) ∧
      (max s.now t < a + 25 * (4 * s.pacing.period) →
        exec (.silence t) s = .next { s with now := max s.now t })) ∧
    (s.pacing.state = .halted →
      (s.pacing.localDue ≤ max s.now t → exec (.localCycleBegin t) s = .next
        (bothSegments false true
          { s with
            now := max s.now t,
            pacing := begun s.pacing.localDue (s.pacing.index + 1) s.store.cell s.pacing })) ∧
      (max s.now t < s.pacing.localDue →
        exec (.localCycleBegin t) s = .next { s with now := max s.now t }))) ∧
  (∀ t a (s : State), s.pacing.anchor = some a →
    a + 25 * (s.pacing.period + s.pacing.tol) ≤ max s.now t →
    let p := begun (a + 25 * (s.pacing.period + s.pacing.tol)) (s.pacing.index + 1) s.store.cell
      s.pacing
    let begin (q : Pacing) : State := { s with
      now := max s.now t, pacing := { q with missedTotal := min (s.pacing.missedTotal + 1) 65535 } }
    (s.pacing.state = .tracking ∨ s.pacing.state = .freewheel → s.pacing.haltPending = true →
      exec (.missedCycle t) s = .next (enterHalted .haltRequest true (begin p))) ∧
    (s.pacing.haltPending = false →
      (s.pacing.state = .tracking →
        (1 < s.store.cell.missedLimit → exec (.missedCycle t) s = .next
          (bothSegments false true (writeEvent (.pacing .missed)
            (begin { p with state := .freewheel, missed := 1, goodRun := 0 })))) ∧
        (s.store.cell.missedLimit ≤ 1 → exec (.missedCycle t) s = .next
          (enterHalted .cellSilent true (begin { p with missed := 1 })))) ∧
      (s.pacing.state = .freewheel →
        (s.pacing.missed + 1 < s.store.cell.missedLimit → exec (.missedCycle t) s = .next
          (bothSegments false true
            (begin { p with missed := s.pacing.missed + 1, goodRun := 0 }))) ∧
        (s.store.cell.missedLimit ≤ s.pacing.missed + 1 → exec (.missedCycle t) s = .next
          (enterHalted .cellSilent true
            (begin { p with missed := s.pacing.missed + 1, goodRun := 0 }))))))

/-! ## The segments -/

/-- R105, R122, R130, R146, R151: what an event of the Pacing Unit does to the segments. A cycle-begin
reaches both as the controllers' own steps, an entry to HALTED takes each one in BOOT to DOWN with reason
HALT, its SYNC cancelled and its windows dropped unclassified, the segments in either order. At a
cycle-begin that enters HALTED a segment in BOOT ends in DOWN with no SYNC scheduled and no window, whether
the entry or its own steps come first (which comes first is the part's choice: log entry 3; its reason where
the close of the earlier cycle has completed its boot: log entry 28); any other takes its own steps. -/
def Obligations.SegmentsReached : Prop :=
  (∀ s : State, ∃ n,
     bothSegments false true s = segCycleBegin .b (segCycleBegin .a { s with free := n }) ∨
     bothSegments false true s = segCycleBegin .a (segCycleBegin .b { s with free := n })) ∧
  (∀ s : State, ∃ n,
     bothSegments true false s = segHalt .b (segHalt .a { s with free := n }) ∨
     bothSegments true false s = segHalt .a (segHalt .b { s with free := n })) ∧
  (∀ (g : Seg) (s : State),
     ((s.seg g).state = .boot → segHalt g s = writeEvent (.segment g .halt)
       { s with segs := s.segs.set g.num (downSegment .halt (s.seg g)) }) ∧
     ((s.seg g).state ≠ .boot → segHalt g s = s)) ∧
  (∀ s : State, s.pacing.state = .halted →
     let t := bothSegments true true s
     (∀ g, (s.seg g).state = .boot →
       (t.seg g).state = .down ∧ ((t.seg g).reason = .halt ∨ (t.seg g).reason = .bootFailed) ∧
       (t.seg g).bootCount = 0 ∧ (t.seg g).withheld = 0 ∧ (t.seg g).pendingSync = none ∧
       (∀ k, (t.slot g k).window = none) ∧
       ((∀ k, (s.slot g k).window = none) → t.seg g = downSegment .halt (s.seg g))) ∧
     (∀ g, (s.seg g).state ≠ .boot → t.seg g = (segCycleBegin g s).seg g) ∧
     t = { s with segs := t.segs, stations := t.stations, report := t.report, free := t.free })

/-- R133, R136 to R138, R143, R144: the first step of a cycle-begin at a segment ends the earlier cycle's
work. A SYNC not yet sent is cancelled. A window that has opened is classified with its candidate as at its
close; one that has not takes NONE; an error latches SLOT_ERROR, bit 9 and on. In UP nothing else changes.
In BOOT each good page is taken and the boot is evaluated; without a window nothing is evaluated. -/
def Obligations.EarlierCycleClosed : Prop :=
  ∀ (g : Seg) (s : State),
    let t := closeEarlierCycle g s
    let opened (k : Fin 4) (w : Window) : Prop :=
      (s.slot g k).window = some w ∧ (w.isOpen = true ∨ w.opens ≤ s.now)
    let cls (k : Fin 4) (w : Window) : SlotClass :=
      replyClass (s.seg g).state (s.slotRec g k).address w.page w.candidate
    segCycleBegin g s = segCycleBegin g t ∧
    (t.seg g).pendingSync = none ∧ (∀ k, (t.slot g k).window = none) ∧
    (∀ g', g' ≠ g → t.seg g' = s.seg g') ∧
    t = { s with segs := t.segs, stations := t.stations, report := t.report } ∧
    ((∀ k, (s.slot g k).window = none) →
      t = { s with segs := s.segs.set g.num { s.seg g with pendingSync := none } }) ∧
    ((s.seg g).state = .up ∨ (s.seg g).state = .boot →
      (∀ k, (s.slot g k).window = none → t.slot g k = s.slot g k) ∧
      (∀ k w, opened k w →
        t.slot g k = classifiedSlot (s.seg g).state (s.slotRec g k) w (s.slot g k) ∧
        (countsError (cls k w) = true → t.report.faults.getLsbD (9 + g.num.val) = true)) ∧
      (∀ k w, (s.slot g k).window = some w → ¬ opened k w →
        t.slot g k = { s.slot g k with window := none, lastClass := .none })) ∧
    ((s.seg g).state = .up →
      t.stations = s.stations ∧ t.report = { s.report with faults := t.report.faults } ∧
      ((∀ k w, opened k w → countsError (cls k w) = false) → t.report = s.report) ∧
      t.seg g = { s.seg g with
        pendingSync := none, replySlot := (t.seg g).replySlot, slots := (t.seg g).slots }) ∧
    ((s.seg g).state = .boot → (∃ k w, (s.slot g k).window = some w) → ∃ u : State,
      t = evalBoot g u ∧ (u.seg g).state = .boot ∧ (u.seg g).bootCount = (s.seg g).bootCount ∧
      u = { s with segs := u.segs, stations := u.stations, report := u.report } ∧
      u.report = { s.report with faults := u.report.faults } ∧
      (∀ k w chars, opened k w → w.page ≤ 3 → w.candidate = .complete chars → cls k w = .good →
        (∀ j v, j ≠ k → (s.slot g j).window = some v →
          (s.slotRec g j).station ≠ (s.slotRec g k).station) →
        let i := (s.slotRec g k).station
        u.station i = initTaken (s.store.stations.get i)
          (pageTaken w.page ((chars.drop 4).take 4) (s.station i).init) (s.station i)) ∧
      (∀ i, (∀ k w, opened k w → cls k w = .good → (s.slotRec g k).station ≠ i) →
        u.station i = s.station i))

/-- R7, R130, R140 to R142, R149, R151: a cycle-begin at a segment with no window open. A segment in DOWN
leaves DOWN when pacing runs cycles, a slot is enabled and SEG_SILENT is clear, to BOOT with its bound
stations' init values cleared or, with boot-skip on, to UP with their fallback values, their limits derived
again and a SEGMENT event written; a segment then in BOOT or UP schedules its SYNC at its delay after the
anchor; one in DOWN or JAMMED schedules none. -/
def Obligations.CycleBeginAtSegment : Prop :=
  ∀ (g : Seg) (a : Nat) (s : State), s.pacing.anchor = some a →
    (∀ k, (s.slot g k).window = none) →
    let t := segCycleBegin g s
    let x := s.seg g
    let leaves := x.state = .down ∧
      (s.pacing.state = .tracking ∨ s.pacing.state = .freewheel) ∧
      (∃ k, (s.slotRec g k).enabled = true) ∧ s.report.faults.getLsbD (7 + g.num.val) = false
    let skip := s.store.cell.bootSkip.get g.num
    let bound (i : Fin 4) : Prop := ∃ k, (s.slotRec g k).enabled = true ∧ (s.slotRec g k).station = i
    let clear : InitValues :=
      { identity := none, counts := none, ratedTorque := none, ratedSpeed := none, mark := .none }
    let sync : PendingSync :=
      { due := a + 25 * s.store.cell.delay.get g.num, index := s.pacing.index,
        serial := s.pacing.serial }
    (leaves → skip = false →
      t.seg g = { x with
        state := .boot, reason := .bootStarted, bootCount := 0, pendingSync := some sync } ∧
      t.report = (writeEvent (.segment g .bootStarted) s).report ∧
      ∀ i, bound i → t.station i = initTaken (s.store.stations.get i) clear (s.station i)) ∧
    (leaves → skip = true →
      t.seg g = { x with state := .up, reason := .bootSkipped, pendingSync := some sync } ∧
      t.report = (writeEvent (.segment g .bootSkipped) s).report ∧
      ∀ i, bound i →
        let r := s.store.stations.get i
        t.station i = initTaken r
          (if r.present then { clear with
              counts := some r.fallbackCounts, ratedTorque := some r.fallbackTorque,
              ratedSpeed := some r.fallbackSpeed }
            else clear) (s.station i)) ∧
    (¬ leaves →
      t.seg g = { x with
        pendingSync := if x.state = .boot ∨ x.state = .up then some sync else none } ∧
      t.stations = s.stations ∧ t.report = s.report) ∧
    (∀ i, ¬ bound i → t.station i = s.station i) ∧
    (∀ g', g' ≠ g → t.seg g' = s.seg g') ∧
    t = { s with segs := t.segs, stations := t.stations, report := t.report }

/-- R84, R131, R132, R146, R148, R196: a SYNC that has fallen due. On an idle line a segment in BOOT sends
a BOOT SYNC that asks for the page of its count; one in UP sends the entries of its enabled slots, each SAFE
in CONFIG, in HALTED or by its source, and else with its source and the table torque in the drive's own
direction; either gives each enabled slot its window. The slew memory of exactly the stations whose entry
mode or pacing makes SAFE is set to 0. On a busy line the SYNC is withheld: the segment enters JAMMED at the
jam limit, and else a segment in BOOT evaluates its boot. A segment in neither state sends none. That the
line counts as idle only 4 µs after a drive's last character, and that the part's own earlier SYNC does not
hold a SYNC back, are the model's readings: log entries 35 and 37. -/
def Obligations.SyncDue : Prop :=
  ∀ t (g : Seg) (p : PendingSync) (s : State), (s.seg g).pendingSync = some p → p.due ≤ max s.now t →
    let x := s.seg g
    let now := max s.now t
    let enabled := four.filter fun k => (s.slotRec g k).enabled
    let sent (frame : List Byte) : Segment := { x with
      withheld := 0, pendingSync := none,
      sync := some { frame := frame, ends := p.due + 25 * (2 * frame.length) },
      slots := Four.tabulate fun k => { s.slot g k with
        window := if (s.slotRec g k).enabled then
            some
              { opens := p.due + 25 * (s.slotRec g k).earliest,
                closes := p.due + 25 * (s.slotRec g k).close, serial := p.serial,
                page := x.bootCount % 4, isOpen := false, candidate := .none }
          else none } }
    (x.state ≠ .boot → x.state ≠ .up → exec (.syncDue t g) s = .next
      { s with now := now, segs := s.segs.set g.num { x with pendingSync := none } }) ∧
    (x.state = .boot → quiet now x → exec (.syncDue t g) s = .next
      { s with
        now := now,
        segs := s.segs.set g.num (sent (syncBytes 0x03 p.index (x.bootCount % 4) [])) }) ∧
    (∀ (kind : Int) (entry : Fin 4 → List (Nat × Int)), x.state = .up → quiet now x →
      ((∀ k ∈ enabled, safeEntry s (s.slotRec g k)) → kind = 0x02) →
      (∀ k ∈ enabled, ¬ safeEntry s (s.slotRec g k) → kind = 0x01) →
      (∀ k ∈ enabled,
        let r := s.slotRec g k
        let y := s.setpoints.get r.station
        (safeEntry s r → entry k = [(1, (r.address : Int) * 16), (3, 0)]) ∧
        (¬ safeEntry s r → entry k =
          [(1, (r.address : Int) * 16 + codeIn sourceOrder y.source),
            (3, if (s.store.stations.get r.station).direction = .plus then y.torque
              else -y.torque)])) →
      ∃ u, exec (.syncDue t g) s = .next u ∧
        u.seg g = sent (syncBytes kind p.index 0 (enabled.map entry)) ∧
        (∀ g', g' ≠ g → u.seg g' = s.seg g') ∧
        (∀ i,
          let cleared := (∃ k ∈ enabled, (s.slotRec g k).station = i ∧ safeEntry s (s.slotRec g k)) ∧
            (s.setpoints.get i).source ≠ .safe
          (cleared → u.station i = { s.station i with slewMemory := 0 }) ∧
          (¬ cleared → u.station i = s.station i)) ∧
        u = { s with now := now, segs := u.segs, stations := u.stations }) ∧
    (x.state = .boot ∨ x.state = .up → ¬ quiet now x →
      let y : Segment := { x with
        pendingSync := none, withheld := x.withheld + 1,
        slots := Four.tabulate fun k =>
          if (s.slotRec g k).enabled then { s.slot g k with lastClass := .none } else s.slot g k }
      let held : State := { s with now := now, segs := s.segs.set g.num y }
      (x.withheld + 1 < s.store.cell.jamLimit →
        (x.state = .up → exec (.syncDue t g) s = .next held) ∧
        (x.state = .boot → exec (.syncDue t g) s = .next (evalBoot g held))) ∧
      (s.store.cell.jamLimit ≤ x.withheld + 1 →
        exec (.syncDue t g) s = .next (latch (.segJammed g) (writeEvent (.segment g .jammed)
          { s with
            now := now,
            segs := s.segs.set g.num { y with state := .jammed, reason := .jammed } }))))

/-- R134, R135, R196: the opening of a window whose moment has come; the start and the completion of a
reply. On an idle line, with the SYNC sent, a reply is the candidate of the lowest window that its moment
lies in, or STRAY where that window has one already or there is none; its last byte completes its window's
candidate. What a drive sends less than 4 µs after the last character goes on with the same reply (log
entry 35); a start while a drive transmits, and one during the part's own SYNC, start no reply (the model's
readings: log entries 14 and 21). -/
def Obligations.WindowsAndReplies : Prop :=
  (∀ t (g : Seg) (k : Fin 4) (w : Window) (s : State), (s.slot g k).window = some w →
     w.opens ≤ max s.now t →
     exec (.windowOpen t g k) s = .next
       { s with
         now := max s.now t,
         segs := s.segs.set g.num { s.seg g with
           slots := (s.seg g).slots.set k
             { s.slot g k with window := some { w with isOpen := true } } } }) ∧
  (∀ t (g : Seg) (s : State),
     let x := s.seg g
     let now := max s.now t
     let left (y : Segment) : State := { s with now := now, segs := s.segs.set g.num y }
     let inside (k : Fin 4) (w : Window) : Prop :=
       (s.slot g k).window = some w ∧ w.opens ≤ now ∧ now < w.closes
     (x.lineBusy = true → exec (.replyStart t g) s = .next { s with now := now }) ∧
     (∀ e, x.lineBusy = false → x.lastEnd = some e → now < e + 100 →
       (x.replySlot = none →
         exec (.replyStart t g) s = .next (left { x with lineBusy := true })) ∧
       (∀ k w chars, x.replySlot = some k → (s.slot g k).window = some w →
         w.candidate = .complete chars →
         exec (.replyStart t g) s = .next (left { x with
           lineBusy := true,
           slots := x.slots.set k
             { s.slot g k with window := some { w with candidate := .arriving chars } } }))) ∧
     (∀ y, quiet now x → x.sync = some y → now < y.ends →
       exec (.replyStart t g) s = .next (left { x with lineBusy := true, replySlot := none })) ∧
     (quiet now x → (∀ y, x.sync = some y → y.ends ≤ now) →
       (∀ k w, (s.slot g k).window = some w → w.isOpen = true → w.opens ≤ now) →
       ∃ u, exec (.replyStart t g) s = .next u ∧ (u.seg g).lineBusy = true ∧
         (∀ k w, inside k w → (∀ j < k, ∀ v, ¬ inside j v) → w.candidate = .none →
           (u.seg g).replySlot = some k ∧ (u.seg g).stray = x.stray ∧
           (u.slot g k).window = some { w with isOpen := true, candidate := .arriving [] }) ∧
         (∀ k w, inside k w → (∀ j < k, ∀ v, ¬ inside j v) → w.candidate ≠ .none →
           (u.seg g).replySlot = none ∧ (u.seg g).stray = min (x.stray + 1) 65535) ∧
         ((∀ k w, ¬ inside k w) →
           (u.seg g).replySlot = none ∧ (u.seg g).stray = min (x.stray + 1) 65535) ∧
         (∀ k, u.slot g k = { s.slot g k with window := (u.slot g k).window } ∧
           ((s.slot g k).window = none → (u.slot g k).window = none) ∧
           ∀ w, (s.slot g k).window = some w → ∃ b, (u.slot g k).window = some { w with
             isOpen := b,
             candidate := if (u.seg g).replySlot = some k then .arriving [] else w.candidate }) ∧
         (∀ g', g' ≠ g → u.seg g' = s.seg g') ∧
         u.seg g = { x with
           lineBusy := true, replySlot := (u.seg g).replySlot, stray := (u.seg g).stray,
           slots := (u.seg g).slots } ∧
         u = { s with now := now, segs := u.segs }) ∧
     (∀ chars,
       (x.lineBusy = false → exec (.replyComplete t g chars) s = .next { s with now := now }) ∧
       (x.lineBusy = true →
         (x.replySlot = none → exec (.replyComplete t g chars) s = .next
           (left { x with lineBusy := false, lastEnd := some now })) ∧
         (∀ k w before, x.replySlot = some k → (s.slot g k).window = some w →
           w.candidate = .arriving before →
           exec (.replyComplete t g chars) s = .next (left { x with
             lineBusy := false, lastEnd := some now,
             slots := x.slots.set k { s.slot g k with
               window := some { w with candidate := .complete (before ++ chars) } } })))))

/-- R136 to R138, R144: the close of a window, in UP, and in BOOT with a class that is not GOOD. The class
by the first check that fails is the slot's last class; an error class adds 1 to its error count and latches
SLOT_ERROR, bit 9 and on; in UP a GOOD reply replaces the buffer, and every other class keeps it. In BOOT
the close of the last window of the cycle evaluates the boot. -/
def Obligations.WindowCloses : Prop :=
  ∀ t (g : Seg) (k : Fin 4) (w : Window) (s : State), (s.slot g k).window = some w →
    w.closes ≤ max s.now t →
    let x := s.seg g
    let c := replyClass x.state (s.slotRec g k).address w.page w.candidate
    let u : State := { s with
      now := max s.now t,
      segs := s.segs.set g.num { x with
        replySlot := if x.replySlot = some k then none else x.replySlot,
        slots := x.slots.set k (classifiedSlot x.state (s.slotRec g k) w (s.slot g k)) },
      report := { s.report with
        faults := s.report.faults |||
          (if countsError c then BitVec.twoPow 18 (9 + g.num.val) else 0) } }
    (x.state = .up → exec (.windowClose t g k) s = .next u) ∧
    (x.state = .boot → c ≠ .good →
      ((∃ j, j ≠ k ∧ (s.slot g j).window ≠ none) → exec (.windowClose t g k) s = .next u) ∧
      ((∀ j, j ≠ k → (s.slot g j).window = none) →
        exec (.windowClose t g k) s = .next (evalBoot g u)))

/-- R6, R7, R136, R137, R143, R144: the close of a window in BOOT whose candidate is a good INIT reply of
the requested page: the page's value is stored with the station's limits derived again, or the station is
marked BAD_INIT when the value is out of its range; the close of the last window of the cycle then evaluates
the boot. -/
def Obligations.BootWindowCloses : Prop :=
  ∀ t (g : Seg) (k : Fin 4) (w : Window) (chars : List Byte) (s : State),
    (s.slot g k).window = some w → w.closes ≤ max s.now t → (s.seg g).state = .boot → w.page ≤ 3 →
    w.candidate = .complete chars → chars.length = 9 →
    chars.take 4 = [0x5A, BitVec.ofNat 8 (s.slotRec g k).address, 0x02, BitVec.ofNat 8 w.page] →
    chars.getLast? = some (crc8 chars.dropLast) →
    let i := (s.slotRec g k).station
    let u : State := { s with
      now := max s.now t,
      segs := s.segs.set g.num { s.seg g with
        replySlot := if (s.seg g).replySlot = some k then none else (s.seg g).replySlot,
        slots := (s.seg g).slots.set k { s.slot g k with lastClass := .good, window := none } },
      stations := s.stations.set i (initTaken (s.store.stations.get i)
        (pageTaken w.page ((chars.drop 4).take 4) (s.station i).init) (s.station i)) }
    ((∃ j, j ≠ k ∧ (s.slot g j).window ≠ none) → exec (.windowClose t g k) s = .next u) ∧
    ((∀ j, j ≠ k → (s.slot g j).window = none) →
      exec (.windowClose t g k) s = .next (evalBoot g u))

/-- R143 to R145: the evaluation of the boot. With every bound station complete the segment goes to UP;
otherwise the boot cycle count goes up by 1, and at 64 the boot ends: a station that has not completed and
has no mark is marked NO_INIT, and the segment goes to UP where one has completed, to DOWN with SEG_SILENT,
bit 7 and on, where none has. -/
def Obligations.BootEvaluated : Prop :=
  ∀ (g : Seg) (s : State),
    let x := s.seg g
    let t := evalBoot g s
    let bound (i : Fin 4) : Prop :=
      ∃ k, (s.slotRec g k).enabled = true ∧ (s.slotRec g k).station = i
    let complete (i : Fin 4) : Prop :=
      (s.station i).init.identity.isSome = true ∧ (s.station i).init.counts.isSome = true ∧
        (s.station i).init.ratedTorque.isSome = true ∧
        (s.station i).init.ratedSpeed.isSome = true ∧ (s.station i).init.mark = .none
    ((∀ i, bound i → complete i) → t = writeEvent (.segment g .bootComplete)
      { s with segs := s.segs.set g.num { x with state := .up, reason := .bootComplete } }) ∧
    (∀ i, bound i → ¬ complete i →
      (x.bootCount + 1 < 64 →
        t = { s with segs := s.segs.set g.num { x with bootCount := x.bootCount + 1 } }) ∧
      (64 ≤ x.bootCount + 1 →
        ((∃ j, bound j ∧ complete j) →
          t.seg g = { x with state := .up, reason := .bootPartial, bootCount := x.bootCount + 1 } ∧
          t.report = (writeEvent (.segment g .bootPartial) s).report) ∧
        ((∀ j, bound j → ¬ complete j) →
          t.seg g = { x with
            state := .down, reason := .bootFailed, bootCount := 0, withheld := 0,
            pendingSync := none, replySlot := none,
            slots := Four.tabulate fun k => { x.slots.get k with window := none } } ∧
          t.report = (latch (.segSilent g) (writeEvent (.segment g .bootFailed) s)).report ∧
          t.report.faults.getLsbD (7 + g.num.val) = true) ∧
        (∀ j, bound j ∧ ¬ complete j ∧ (s.station j).init.mark = .none →
          (t.station j).init = { (s.station j).init with mark := .noInit }) ∧
        (∀ j, ¬ bound j ∨ complete j ∨ (s.station j).init.mark = .badInit →
          (t.station j).init = (s.station j).init) ∧
        (∀ j, t.station j = { s.station j with
          init := (t.station j).init, torqueLimit := (t.station j).torqueLimit,
          overspeedLimit := (t.station j).overspeedLimit }) ∧
        (∀ g', g' ≠ g → t.seg g' = s.seg g') ∧
        t = { s with segs := t.segs, stations := t.stations, report := t.report }))

/-! ## The computation point -/

/-- R24, R26 to R28, R43, R70, R72, R73, R78, R106, R164: the computation point completes. It takes the
pending demand or ages the one in force, with the DEMAND event and flag of a loss and the event of a
restoration; then, in this order, intake, rings, the references of group 0 and 1 (that order: log entry 9),
the forces, the lock stages, the probe stage, assembly, and the cycle's UPLINK, each taking the state the
one before it leaves. It writes every set-point with its cycle's serial and as the slew memory, and in
CONFIG and in HALTED writes every set-point SAFE. -/
def Obligations.ComputationPoint : Prop :=
  ∀ t due (s : State), s.pacing.cpDue = some due → due ≤ max s.now t →
    let p := s.port.pendingDemand
    let age := min (s.demand.age + 1) 255
    let losing := !s.demand.lost && decide (s.store.cell.demandHold < age)
    let mode := if p.arrived then p.mode
      else if s.demand.lost || losing then DriveMode.coast else s.demand.mode
    let change := decide (mode ≠ s.demand.prevMode) &&
      (decide (mode = .speed) || decide (s.demand.prevMode = .speed))
    let taken : State :=
      writeEvents
        (if p.arrived then (if s.demand.lost then [.demand false] else [])
          else (if losing then [.demand true] else []))
        { s with
          now := max s.now t, pacing := { s.pacing with cpDue := none },
          port := { s.port with pendingDemand := { p with arrived := false } },
          demand := if p.arrived then
              { mode := p.mode, target := p.target, mass := p.mass, age := 0, lost := false,
                prevMode := p.mode }
            else { s.demand with age := age, lost := s.demand.lost || losing, prevMode := mode },
          report := { s.report with
            faults := if !p.arrived && losing then s.report.faults ||| 0x4 else s.report.faults } }
    let measured := referenceStage change 1 (referenceStage change 0
      (motionStage (four.foldl intakeStation taken)))
    let probed := probeStage (lockStage 1 (lockStage 0 measured))
    ∃ u, exec (.computationPoint t) s = .next u ∧
      u = perCycleUplink (assembly (Four.tabulate (gatedForces measured)) probed.2 probed.1) ∧
      u.now = max s.now t ∧ u.pending = s.pending ∧ u.free = s.free ∧
      u.pacing = { s.pacing with cpDue := none } ∧ u.store = s.store ∧ u.mgmt.mode = s.mgmt.mode ∧
      u.mgmt.dropped = s.mgmt.dropped ∧ u.demand = taken.demand ∧
      (p.arrived = false → losing = true → u.report.faults.getLsbD 2 = true) ∧
      u.port = { s.port with
        pendingDemand := { p with arrived := false }, clampNotice := u.port.clampNotice,
        uplinkSkips := u.port.uplinkSkips, tx := u.port.tx } ∧
      (∀ g, u.seg g = { s.seg g with slots := (u.seg g).slots } ∧
        ∀ k, u.slot g k = { s.slot g k with buffer := (u.slot g k).buffer }) ∧
      (∀ i, (u.station i).init = (s.station i).init ∧
        (u.station i).torqueLimit = (s.station i).torqueLimit ∧
        (u.station i).overspeedLimit = (s.station i).overspeedLimit) ∧
      (∀ i, (u.setpoints.get i).serial = s.pacing.serial ∧
        (u.station i).slewMemory = (u.setpoints.get i).torque) ∧
      (s.mgmt.mode = .config ∨ s.pacing.state = .halted → ∀ i, u.setpoints.get i =
        { torque := 0, source := .safe, limited := false, slewed := false,
          serial := s.pacing.serial })

/-- R71 to R78, R83: assembly. A station's source by priority; its target, the torque of its DIRECT or of
the sum of its road-load, inertia, lock and probe forces; the clamp and the slew from the slew memory; the
entry stored with the cycle's serial and its torque as the slew memory. A DIRECT that has given a set-point
counts down and ends as EXPIRED at 0. And over a whole computation point: a set-point that is not SAFE needs
OPERATE, pacing not HALTED, a station LIVE or STALE and its segment UP; it lies within the station's limit
where the slew memory did, and within the slew of that memory. -/
def Obligations.SetPointLimits : Prop :=
  (∀ (forces : Four (Int × Int)) (probe : Four Int) (i : Fin 4) (lock target : Int) (s : State),
    let u := assembly forces probe s
    let x := u.setpoints.get i
    let memory := (s.station i).slewMemory
    let limit : Int := (s.station i).torqueLimit
    let slew : Int := (s.store.stations.get i).slew
    let d := s.direct i
    let safe := s.mgmt.mode = .config ∨ s.pacing.state = .halted ∨
      liveOrStale (s.station i) = false ∨ stationSegState s i ≠ some .up
    let clamped := max (-limit) (min limit target)
    ((∀ g, isMember (s.store.groups.get g) i = false) → lock = 0) →
    (∀ g, isMember (s.store.groups.get g) i = true → lock = (s.group g).force.get i) →
    (d.active = true → target = d.torque) →
    (d.active = false → RoundsTo
      (((forces.get i).1 + (forces.get i).2 + lock + probe.get i) * (s.store.stations.get i).radius)
      100000 target) →
    x.serial = s.pacing.serial ∧ u.station i = { s.station i with slewMemory := x.torque } ∧
    (safe → x.torque = 0 ∧ x.source = .safe ∧ x.limited = false ∧ x.slewed = false) ∧
    (¬ safe → x.source = (if d.active then .direct else .computed) ∧
      x.limited = decide (clamped ≠ target) ∧
      (|clamped - memory| ≤ slew → x.torque = clamped ∧ x.slewed = false) ∧
      (slew < |clamped - memory| → x.slewed = true ∧
        x.torque = if memory < clamped then memory + slew else memory - slew)) ∧
    (x.source ≠ .direct → u.direct i = d) ∧
    (x.source = .direct → u.direct i =
      { active := decide (1 < d.remaining), torque := d.torque, remaining := d.remaining - 1,
        endCause := if d.remaining ≤ 1 then .expired else d.endCause }) ∧
    u.report = (writeEvents (four.filterMap fun j =>
      if (u.setpoints.get j).source = .direct ∧ (s.direct j).remaining ≤ 1 then
        some (.direct j false) else none) s).report ∧
    u = { s with
      setpoints := u.setpoints, stations := u.stations, directs := u.directs,
      report := u.report }) ∧
  (∀ t due (i : Fin 4) (s u : State), s.pacing.cpDue = some due → due ≤ max s.now t →
    exec (.computationPoint t) s = .next u →
    let x := u.setpoints.get i
    let memory := (s.station i).slewMemory
    let limit := (s.station i).torqueLimit
    let d := s.direct i
    (x.source = .safe → x.torque = 0 ∧ x.limited = false ∧ x.slewed = false) ∧
    (x.source ≠ .safe →
      s.mgmt.mode = .operate ∧ s.pacing.state ≠ .halted ∧ liveOrStale (u.station i) = true ∧
      stationSegState s i = some .up ∧ (memory.natAbs ≤ limit → x.torque.natAbs ≤ limit) ∧
      (x.torque - memory).natAbs ≤ (s.store.stations.get i).slew ∧
      (x.slewed = true → (x.torque - memory).natAbs = (s.store.stations.get i).slew)) ∧
    (x.source = .direct →
      d.active = true ∧ x.limited = decide (limit < d.torque.natAbs) ∧
      (x.slewed = false → x.torque = clampAbs limit d.torque)) ∧
    (x.source = .computed → d.active = false ∧ u.direct i = d ∧
      (s.check.running = false → (s.store.stations.get i).present = true →
        (∀ g, isMember (s.store.groups.get g) i = false) →
        let r := s.store.stations.get i
        ∃ target : Int, (u.demand.prevMode ≠ .road → target = 0) ∧
          (∀ v, u.demand.prevMode = .road → (u.station i).speed = some v →
            target = forceToTorque (roadLoadForce s.store.road r.share v +
              inertiaForce u.demand.mass r.share r.mechMass (u.station i).accel) r.radius) ∧
          x.limited = decide (clampAbs limit target ≠ target) ∧
          (x.slewed = false → x.torque = clampAbs limit target))))

/-- R31 to R38, R74: the vehicle force by the four cases in their order, interpolated between breakpoints
and rounded once, within 0 to 30,000 N; above a band greater than the first breakpoint and below the
breakpoints above the band it is the first row's force or the interpolation, by a free choice of Config
between R31 and R34 with R35, which disagree there (log entry 40); a station's share of it, rounded, with the sign of the road speed;
the inertia force; and a force as a torque. A station's forces are 0 outside ROAD and where it is not
present, LIVE or STALE; in ROAD a member of an engaged group takes the group's reference and reference
acceleration as its road speed and acceleration, any other station its own. -/
def Obligations.RoadLoad : Prop :=
  (∀ (t : RoadTable) (first last : RoadRow) (s : Nat), RoadFits t → t.rows.head? = some first →
    t.rows.getLast? = some last →
    (s ≤ t.band → vehicleForce t s = 0) ∧
    (t.band < s → s ≤ first.speed * 1000 → vehicleForce t s = first.force) ∧
    (t.band < s → last.speed * 1000 ≤ s → vehicleForce t s = last.force) ∧
    (∀ (j : Nat) (a b : RoadRow), t.rows[j]? = some a → t.rows[j + 1]? = some b → t.band < s →
      first.speed * 1000 < s → a.speed * 1000 ≤ s → s < b.speed * 1000 →
      let aboveBand : Prop := first.speed * 1000 < t.band ∧ a.speed * 1000 ≤ t.band
      (aboveBand → Config.firstRowAboveBand = true → vehicleForce t s = first.force) ∧
      (¬ aboveBand ∨ Config.firstRowAboveBand = false →
        RoundsTo (a.force * ((b.speed : Int) * 1000 - s) + b.force * ((s : Int) - a.speed * 1000))
          ((b.speed - a.speed) * 1000) (vehicleForce t s)) ∧
      (s = a.speed * 1000 → vehicleForce t s = a.force)) ∧
    (0 ≤ vehicleForce t s ∧ vehicleForce t s ≤ 30000) ∧
    (∀ (share : Nat) (v : Int), v.natAbs = s →
      (0 < v → RoundsTo (vehicleForce t s * share) 1024 (roadLoadForce t share v)) ∧
      roadLoadForce t share (-v) = -(roadLoadForce t share v) ∧
      (v = 0 → roadLoadForce t share v = 0) ∧ roadLoadForce t 0 v = 0) ∧
    (∀ (mass share mech : Nat) (a : Int),
      RoundsTo (((mass : Int) * share - 1024 * mech) * a) 1024000 (inertiaForce mass share mech a)) ∧
    (∀ (force : Int) (radius : Nat),
      RoundsTo (force * radius) 100000 (forceToTorque force radius))) ∧
  (∀ (s : State) (i : Fin 4),
    let r := s.store.stations.get i
    let member (g : Fin 2) : Prop :=
      isMember (s.store.groups.get g) i = true ∧ engaged (s.group g) = true
    let forces (v a : Int) : Int × Int :=
      (roadLoadForce s.store.road r.share v, inertiaForce s.demand.mass r.share r.mechMass a)
    (s.demand.prevMode ≠ .road ∨ r.present = false ∨ liveOrStale (s.station i) = false →
      gatedForces s i = (0, 0)) ∧
    (s.demand.prevMode = .road → r.present = true → liveOrStale (s.station i) = true →
      (∀ g z, member g → (∀ g', isMember (s.store.groups.get g') i = true → g' = g) →
        (s.group g).reference = some z → gatedForces s i = forces z (s.group g).refAccel) ∧
      (∀ v, (∀ g, ¬ member g) → (s.station i).speed = some v →
        gatedForces s i = forces v (s.station i).accel)))

/-- R7, R10, R17, R18: a station's effective limits from its record and its init values; the surface speed
of a record that can be converted; the rings and the accelerations after intake. The accelerations use the
period in force: log entry 15. -/
def Obligations.Measures : Prop :=
  (∀ (r : StationRec) (v : InitValues),
    (r.present = false → torqueLimitOf r v = 0 ∧ overspeedLimitOf r v = 0) ∧
    (r.present = true →
      (v.ratedTorque = none → torqueLimitOf r v = r.torqueLimit) ∧
      (∀ n, v.ratedTorque = some n → torqueLimitOf r v = min r.torqueLimit n) ∧
      (v.ratedSpeed = none → overspeedLimitOf r v = r.overspeed) ∧
      (∀ n q : Nat, v.ratedSpeed = some n → RoundsTo ((n * r.circumference : Nat) : Int) 60 q →
        overspeedLimitOf r v = min r.overspeed q))) ∧
  (∀ (r : StationRec) (v : InitValues) (m : Measure),
    (v.counts = none ∨ v.ratedTorque = none ∨ v.ratedSpeed = none ∨ v.mark ≠ .none →
      surfaceSpeed r v m = none) ∧
    (∀ n q, v.counts = some n → v.ratedTorque ≠ none → v.ratedSpeed ≠ none → v.mark = .none →
      0 < n →
      RoundsTo (m.cps * (if r.direction = .plus then 1 else -1) * (r.circumference : Int)) n q →
      surfaceSpeed r v m = some (max (-90000000) (min 90000000 q)))) ∧
  (∀ (s : State) (i : Fin 4),
    let x := s.station i
    let y := (motionStage s).station i
    (∀ v, liveOrStale x = true → x.speed = some v →
      y = { x with ring := y.ring, accel := y.accel } ∧
      RingAccel (s.store.stations.get i).accelWindow s.pacing.period x.ring v y.ring y.accel) ∧
    (liveOrStale x = false → y = { x with accel := 0 }) ∧
    motionStage s = { s with stations := (motionStage s).stations })

/-- R8 to R16, R19, R20: station intake of a present station, whose slot is the enabled slot that names it.
One WAITING, LIVE or STALE goes to FAULTED where its segment is JAMMED, or where it has a slot and a mark;
else a fresh record gives it status and torque, and a drive fault FAULTED; a sample that is READY, converted
and plausible is adopted; everything else, a rejected sample with its count, is no usable sample. One
FAULTED takes status, torque and speed only. What adoption, a missing sample, the overspeed debounce (of a
held speed too) and each entry to FAULTED do stands in `sampled`, `unsampled`, `debounced` and
`faultedAt`. -/
def Obligations.StationIntake : Prop :=
  ∀ (i : Fin 4) (slot : Option (Seg × Fin 4)) (s : State),
    (∀ gk, slot = some gk ↔ slotNames s.store gk i) →
    let u := intakeStation s i
    let x := s.station i
    let r := s.store.stations.get i
    let segState := slot.map fun gk => (s.seg gk.1).state
    let fresh : Option Measure := slot.bind fun gk =>
      (s.slot gk.1 gk.2).buffer.bind fun m => if m.serial = s.pacing.serial then some m else none
    let read (m : Measure) (v : Option Int) : StationRt :=
      { x with status := some m.status, torque := some m.torque, speed := v.or x.speed }
    (r.present = false ∨ x.state = .absent → u = s) ∧
    (r.present = true → x.state = .faulted →
      (fresh = none → u = s) ∧
      (∀ m, fresh = some m →
        u = { s with stations := s.stations.set i (read m (surfaceSpeed r x.init m)) })) ∧
    (r.present = true → x.state = .waiting ∨ x.state = .live ∨ x.state = .stale →
      (segState = some .jammed → u = faultedAt i .segmentLost x s) ∧
      (slot.isSome = true → segState ≠ some .jammed →
        (x.init.mark = .noInit → u = faultedAt i .noInit x s) ∧
        (x.init.mark = .badInit → u = faultedAt i .badInit x s)) ∧
      (slot = none → u = unsampled i x s) ∧
      (slot.isSome = true → segState ≠ some .jammed → x.init.mark = .none →
        (fresh = none → u = unsampled i x s) ∧
        (∀ m, fresh = some m →
          let v := surfaceSpeed r x.init m
          (m.status.getLsbD 1 = true → u = faultedAt i .driveFault (read m v) s) ∧
          (m.status.getLsbD 1 = false → m.status.getLsbD 0 = false →
            u = unsampled i (read m none) s) ∧
          (m.status.getLsbD 1 = false → m.status.getLsbD 0 = true →
            (v = none → u = unsampled i (read m none) s) ∧
            (∀ z last, v = some z → x.speed = some last → r.maxStep < (z - last).natAbs →
              u = unsampled i { read m none with plausibility := min (x.plausibility + 1) 255 } s) ∧
            (∀ z, v = some z → (∀ last, x.speed = some last → (z - last).natAbs ≤ r.maxStep) →
              u = sampled i z (read m none) s)))))

/-- R52, R53: a corrected member's integrator and force, and that they keep within the clamp and the
authority. The period is that in force: log entry 15, the model's reading. -/
def Obligations.LockCorrection : Prop :=
  ∀ (r : GroupRec) (period authority : Nat) (e integrator : Int),
    ∃ increment force held tentative_ : Int,
      RoundsTo (e * period) 1000 increment ∧
      tentative_ = max (-((r.integratorClamp : Int) * 1000))
        (min ((r.integratorClamp : Int) * 1000) (integrator + increment)) ∧
      RoundsTo (r.kp * e + r.ki * tentative_) 1000000 force ∧
      RoundsTo (r.kp * e + r.ki * integrator) 1000000 held ∧
      ((authority : Int) < |force| ∧ 0 < e * force →
        correct r period authority e integrator =
          (integrator, max (-(authority : Int)) (min (authority : Int) held))) ∧
      (¬ ((authority : Int) < |force| ∧ 0 < e * force) →
        correct r period authority e integrator =
          (tentative_, max (-(authority : Int)) (min (authority : Int) force))) ∧
      (correct r period authority e integrator).2.natAbs ≤ authority ∧
      (integrator.natAbs ≤ r.integratorClamp * 1000 →
        (correct r period authority e integrator).1.natAbs ≤ r.integratorClamp * 1000)

/-- R50, R51, R54 to R60: the lock stage of a group with members: errors against the reference, forces and
metrics, the counts of each state's tests, and the change of state they decide; of a group in OPEN or
BROKEN, its errors for reporting and nothing applied. The period is that in force (log entry 15), an error
without a speed or a reference 0 (log entry 25), the greatest |I| of a group that breaks 0 (log entry 10):
the model's readings. -/
def Obligations.LockStage : Prop :=
  (∀ (g : Fin 2) (s : State), (s.store.groups.get g).members = 0 → lockStage g s = s) ∧
  (∀ (g : Fin 2) (s : State) (e : Fin 4 → Int),
    let r := s.store.groups.get g
    let x := s.group g
    r.members ≠ 0 → engaged x = false →
    (∀ i, e i = if isMember r i then errorOf (s.station i) x.reference else 0) →
    lockStage g s = { s with groups := s.groups.set g { x with
      aEff := 0, integrator := ⟨0, 0, 0, 0⟩, force := ⟨0, 0, 0, 0⟩, error := Four.tabulate e,
      maxError := greatest e, maxIntegrator := 0 } }) ∧
  (∀ (g : Fin 2) (s : State) (e i' f : Fin 4 → Int) (c a : Nat),
    let r := s.store.groups.get g
    let x := s.group g
    let y := (lockStage g s).group g
    let breaks := r.breakBand < greatest e
    let slips := r.slipBand < greatest e ∨ r.driftLimit * 1000 ≤ greatest i'
    r.members ≠ 0 → engaged x = true →
    c = (if x.state = .capturing then min (x.c + 1) r.captureCycles else x.c) →
    a = (if x.state = .capturing then r.authority * c / r.captureCycles else r.authority) →
    (∀ i, corrected r s.demand.prevMode i →
      e i = errorOf (s.station i) x.reference ∧
      (i' i, f i) = correct r s.pacing.period a (e i) (x.integrator.get i)) →
    (∀ i, ¬ corrected r s.demand.prevMode i → e i = 0 ∧ i' i = 0 ∧ f i = 0) →
    (y.state, y.reason) = lockOutcome r x c (greatest e) (greatest i') ∧
    (∀ i, y.error.get i = e i) ∧ y.maxError = greatest e ∧ y.c = c ∧
    (y.state ≠ .broken → y.aEff = a ∧ y.maxIntegrator = greatest i' ∧
      (∀ i, y.integrator.get i = i' i ∧ y.force.get i = f i)) ∧
    (y.state = .broken → y.aEff = 0 ∧ y.maxIntegrator = 0 ∧
      (∀ i, y.integrator.get i = 0 ∧ y.force.get i = 0) ∧
      (lockStage g s).report.faults.getLsbD (15 + g.val) = true) ∧
    (x.state = .capturing →
      y.inBand = (if greatest e ≤ r.captureBand then min (x.inBand + 1) 255 else 0) ∧
      y.elapsed = x.elapsed + 1 ∧ y.slipRun = (if y.state = .locked then 0 else x.slipRun) ∧
      y.recoverRun = x.recoverRun ∧ y.slipCycles = x.slipCycles) ∧
    (x.state = .locked → y.inBand = x.inBand ∧ y.elapsed = x.elapsed ∧
      (breaks → y.slipRun = x.slipRun) ∧
      (¬ breaks → (slips → y.slipRun = x.slipRun + 1) ∧ (¬ slips → y.slipRun = 0)) ∧
      y.slipCycles = (if y.state = .slipping then 0 else x.slipCycles) ∧
      y.recoverRun = (if y.state = .slipping then 0 else x.recoverRun)) ∧
    (x.state = .slipping → y.inBand = x.inBand ∧ y.elapsed = x.elapsed ∧
      y.slipCycles = x.slipCycles + 1 ∧
      (breaks → y.recoverRun = x.recoverRun) ∧
      (¬ breaks → (slips → y.recoverRun = 0) ∧ (¬ slips → y.recoverRun = x.recoverRun + 1)) ∧
      y.slipRun = (if y.state = .locked then 0 else x.slipRun)) ∧
    y = { x with
      state := y.state, reason := y.reason, c := y.c, inBand := y.inBand, elapsed := y.elapsed,
      slipRun := y.slipRun, recoverRun := y.recoverRun, slipCycles := y.slipCycles, aEff := y.aEff,
      integrator := y.integrator, error := y.error, force := y.force, maxError := y.maxError,
      maxIntegrator := y.maxIntegrator } ∧
    (y.state = x.state → (lockStage g s).report = s.report) ∧
    (y.state ≠ x.state → (lockStage g s).report.queue.getLast? =
      some
        { sequence := s.report.nextSequence, serial := s.pacing.serial,
          body := .group g y.reason y.maxError }) ∧
    (∀ g', g' ≠ g → (lockStage g s).group g' = s.group g') ∧
    lockStage g s = { s with
      groups := (lockStage g s).groups, report := (lockStage g s).report })

/-- R43 to R49, R60: the reference stage of a group with members. An engaged group with a member FAULTED
goes to BROKEN with MEMBER_FAULT; one that stays engaged starts its capture again at a reference change.
The measured reference is the mean of the members' speeds or the leader's speed, held where there is none;
outside SPEED, or not engaged, the reference is that; engaged in SPEED it is the ramped target, which starts
there and then moves one step toward the demanded target without passing it. The ring takes the reference,
the acceleration follows it, and the status OR is formed. A group without members keeps its record. That a
held reference is appended too, and that the ramp starts from a held one, are the model's readings (log
entry 8); the period is that in force (log entry 15). -/
def Obligations.ReferenceStage : Prop :=
  (∀ change (g : Fin 2) (s : State), (s.store.groups.get g).members = 0 →
    referenceStage change g s = s) ∧
  (∀ (change : Bool) (g : Fin 2) (s : State) (z : GroupRt) (found : Option Int),
    let r := s.store.groups.get g
    let x := s.group g
    let t := referenceStage change g s
    let y := t.group g
    let target : Int := s.demand.target * 1000
    let lost : Prop := ∃ i, isMember r i = true ∧ (s.station i).state = .faulted
    let zeros : Four Int := ⟨0, 0, 0, 0⟩
    let speeds := (four.filter (isMember r)).filterMap fun i =>
      if liveOrStale (s.station i) then (s.station i).speed else none
    let measured := found.or x.measured
    r.members ≠ 0 →
    (engaged x = true → lost → z = { x with
      state := .broken, reason := .memberFault, integrator := zeros, force := zeros, aEff := 0 }) →
    (engaged x = true → ¬ lost → change = true → z = { x with
      state := .capturing, reason := .referenceChanged, c := 0, inBand := 0, elapsed := 0,
      slipRun := 0, recoverRun := 0, slipCycles := 0, integrator := zeros, ramped := none }) →
    (engaged x = false ∨ (¬ lost ∧ change = false) → z = x) →
    (r.kind = .mean → speeds = [] → found = none) →
    (r.kind = .mean → speeds ≠ [] → ∃ m, RoundsTo speeds.sum speeds.length m ∧ found = some m) →
    (r.kind = .leader → found =
      if liveOrStale (s.station r.leader) then (s.station r.leader).speed else none) →
    y.measured = measured ∧
    (engaged z = true → s.demand.prevMode = .speed →
      y.reference = y.ramped ∧ (z.ramped = none → y.ramped = measured) ∧
      ∀ q n step, z.ramped = some q → RoundsTo (r.accelLimit * s.pacing.period) 1000 n →
        step = max 1 n →
        y.ramped = some (if |target - q| ≤ step then target else if q < target then q + step
          else q - step)) ∧
    (engaged z = false ∨ s.demand.prevMode ≠ .speed →
      y.ramped = none ∧ y.reference = found.or x.reference) ∧
    (y.reference = none → y.ring = x.ring ∧ y.refAccel = 0) ∧
    (∀ v, y.reference = some v → RingAccel r.accelWindow s.pacing.period x.ring v y.ring y.refAccel) ∧
    (y.limiting = true ↔
      ∃ i b, isMember r i = true ∧ (s.station i).status = some b ∧ b.getLsbD 3 = true) ∧
    (y.brake = true ↔
      ∃ i b, isMember r i = true ∧ (s.station i).status = some b ∧ b.getLsbD 2 = true) ∧
    y = { z with
      measured := y.measured, ramped := y.ramped, reference := y.reference, ring := y.ring,
      refAccel := y.refAccel, limiting := y.limiting, brake := y.brake } ∧
    (engaged x = true → lost → t.report = (writeEvent (.group g .memberFault x.maxError)
      { s with report := { s.report with
          faults := s.report.faults ||| BitVec.twoPow 18 (15 + g.val) } }).report) ∧
    (engaged x = true → ¬ lost → change = true →
      t.report = (writeEvent (.group g .referenceChanged x.maxError) s).report) ∧
    (engaged x = false ∨ (¬ lost ∧ change = false) → t.report = s.report) ∧
    (∀ g', g' ≠ g → t.group g' = s.group g') ∧
    t = { s with groups := t.groups, report := t.report })

/-- R92 to R97: the probe stage: the abort of a check whose group is not LOCKED, the peak, the judgement
of a complete check, and the probe force of the pattern's bit. -/
def Obligations.ProbeStage : Prop :=
  ∀ s : State,
    let c := s.check
    let x := s.group c.group
    let peak := max c.peak x.maxError
    let ended (result : CheckResult) (reason : CheckReason) (top : Nat) : LastCheck :=
      { result := result, reason := reason, group := c.group, station := c.station,
        length := c.length, step := c.step, peak := top, cycles := c.elapsed }
    (c.running = false → probeStage s = (s, noProbe)) ∧
    (c.running = true →
      (∀ reason, (x.state = .broken ∧ reason = .broken) ∨ (x.state = .capturing ∧ reason = .capturing)
          ∨ (x.state = .slipping ∧ reason = .slipping) →
        probeStage s =
          (writeEvent (.check c.group (.aborted reason) c.peak)
            { s with
              check := { c with running := false },
              lastCheck := ended .aborted reason c.peak }, noProbe)) ∧
      (x.state = .locked → c.elapsed = c.length * c.step →
        (peak ≤ c.band → probeStage s =
          (writeEvent (.check c.group .pass peak)
            { s with
              check := { c with running := false, peak := peak },
              lastCheck := ended .pass .completed peak }, noProbe)) ∧
        (c.band < peak → probeStage s =
          (writeEvent (.check c.group .fail peak)
            { s with
              check := { c with running := false, peak := peak },
              lastCheck := ended .fail .completed peak,
              report := { s.report with faults := s.report.faults ||| 0x20000 } }, noProbe))) ∧
      (x.state = .locked → c.elapsed ≠ c.length * c.step →
        probeStage s =
          ({ s with check := { c with peak := peak, elapsed := c.elapsed + 1 } },
            Four.tabulate fun i =>
              if i = c.station ∧ c.pattern.getLsbD (c.elapsed / c.step) = true then (c.offset : Int)
              else 0)))

/-! ## Invariants -/

/-- R193: the queue holds at most 32 records, numbered consecutively up to the next sequence. -/
def Obligations.QueueInOrderKept : Prop :=
  ∀ s t, QueueInOrder s → step s = .next t → QueueInOrder t

/-- R51 to R53, R55: a force lies within the group's authority in force, that within the authority, an
integrator within its clamp; an OPEN or BROKEN group applies nothing. -/
def Obligations.GroupsBoundedKept : Prop :=
  ∀ s t, GroupsBounded s → step s = .next t → GroupsBounded t

/-- In CONFIG no group is engaged, no DIRECT active and every set-point SAFE; an engaged group and a
DIRECT need running cycles and stations LIVE or STALE, and exclude each other; a running check's group is
LOCKED (R44, R62, R80, R83, R91, R93, R179, R180); and a SAFE entry carries no torque (R70). -/
def Obligations.RunConsistentKept : Prop :=
  ∀ s t, RunConsistent s → SafeEntries s → StoreConsistent s → step s = .next t →
    RunConsistent t ∧ SafeEntries t

/-- R41, R129: a station is in at most one group and bound to at most one enabled slot; it is ABSENT
exactly when its record is not present; and its limits are those of R7. -/
def Obligations.StoreConsistentKept : Prop :=
  ∀ s t, StoreConsistent s → LimitsDerived s → step s = .next t →
    StoreConsistent t ∧ LimitsDerived t

/-- R10, R17, R18, R46 to R48, R160: speeds, rings, references, accelerations and demands stay in their
ranges. -/
def Obligations.SpeedsBoundedKept : Prop :=
  ∀ s t, SpeedsBounded s → step s = .next t → SpeedsBounded t

/-- The counters of the part saturate at their widths, and a boot in progress has run fewer than 64
cycles. -/
def Obligations.CountersSaturateKept : Prop :=
  ∀ s t, CountersSaturate s → step s = .next t → CountersSaturate t
end

