-- ==== Sys2Proof/Laws/State.lean ====
section
/-! SUPPORT. One lemma per field per update of State, and the laws of the two containers. -/

namespace Sys2Proof

@[simp] theorem Four.get_set {α : Type} (v : Four α) (i j : Fin 4) (a : α) :
    (v.set i a).get j = if j = i then a else v.get j := by
  fin_cases i <;> fin_cases j <;> rfl

@[simp] theorem Four.get_tabulate {α : Type} (f : Fin 4 → α) (i : Fin 4) :
    (Four.tabulate f).get i = f i := by
  fin_cases i <;> rfl

theorem Four.ext_get {α : Type} {v w : Four α} (h : ∀ i, v.get i = w.get i) : v = w := by
  cases v
  cases w
  have h0 := h 0
  have h1 := h 1
  have h2 := h 2
  have h3 := h 3
  simp only [Four.get] at h0 h1 h2 h3
  simp [h0, h1, h2, h3]

@[simp] theorem Two.get_set {α : Type} (v : Two α) (i j : Fin 2) (a : α) :
    (v.set i a).get j = if j = i then a else v.get j := by
  fin_cases i <;> fin_cases j <;> rfl

@[simp] theorem Two.get_tabulate {α : Type} (f : Fin 2 → α) (i : Fin 2) :
    (Two.tabulate f).get i = f i := by
  fin_cases i <;> rfl

theorem Two.ext_get {α : Type} {v w : Two α} (h : ∀ i, v.get i = w.get i) : v = w := by
  cases v
  cases w
  have h0 := h 0
  have h1 := h 1
  simp only [Two.get] at h0 h1
  simp [h0, h1]

@[simp] theorem Seg.num_inj (g h : Seg) : g.num = h.num ↔ g = h := by
  cases g <;> cases h <;> decide

/-- A fold of updates keeps what each update keeps. -/
theorem foldl_keeps {α β γ : Type} (π : β → γ) (f : β → α → β) (h : ∀ b a, π (f b a) = π b)
    (l : List α) (b : β) : π (l.foldl f b) = π b := by
  induction l generalizing b with
  | nil => rfl
  | cons a l ih => rw [List.foldl_cons, ih, h]

/-- A fold of updates keeps a property that each update keeps. -/
theorem foldl_invariant {α β : Type} (P : β → Prop) (f : β → α → β) (h : ∀ b a, P b → P (f b a))
    (l : List α) (b : β) (hb : P b) : P (l.foldl f b) := by
  induction l generalizing b with
  | nil => exact hb
  | cons a l ih => exact ih _ (h b a hb)

namespace Machine

@[simp] theorem State.setNow_now (s : State) (t : Nat) : (s.setNow t).now = t := rfl
@[simp] theorem State.setNow_pending (s : State) (t : Nat) : (s.setNow t).pending = s.pending := rfl
@[simp] theorem State.setNow_port (s : State) (t : Nat) : (s.setNow t).port = s.port := rfl
@[simp] theorem State.setNow_pacing (s : State) (t : Nat) : (s.setNow t).pacing = s.pacing := rfl
@[simp] theorem State.setNow_store (s : State) (t : Nat) : (s.setNow t).store = s.store := rfl
@[simp] theorem State.setNow_segs (s : State) (t : Nat) : (s.setNow t).segs = s.segs := rfl
@[simp] theorem State.setNow_stations (s : State) (t : Nat) : (s.setNow t).stations = s.stations := rfl
@[simp] theorem State.setNow_demand (s : State) (t : Nat) : (s.setNow t).demand = s.demand := rfl
@[simp] theorem State.setNow_groups (s : State) (t : Nat) : (s.setNow t).groups = s.groups := rfl
@[simp] theorem State.setNow_setpoints (s : State) (t : Nat) : (s.setNow t).setpoints = s.setpoints := rfl
@[simp] theorem State.setNow_directs (s : State) (t : Nat) : (s.setNow t).directs = s.directs := rfl
@[simp] theorem State.setNow_check (s : State) (t : Nat) : (s.setNow t).check = s.check := rfl
@[simp] theorem State.setNow_lastCheck (s : State) (t : Nat) : (s.setNow t).lastCheck = s.lastCheck := rfl
@[simp] theorem State.setNow_mgmt (s : State) (t : Nat) : (s.setNow t).mgmt = s.mgmt := rfl
@[simp] theorem State.setNow_report (s : State) (t : Nat) : (s.setNow t).report = s.report := rfl
@[simp] theorem State.setNow_free (s : State) (t : Nat) : (s.setNow t).free = s.free := rfl

@[simp] theorem State.setPending_now (s : State) (q : List Instr) : (s.setPending q).now = s.now := rfl
@[simp] theorem State.setPending_pending (s : State) (q : List Instr) : (s.setPending q).pending = q := rfl
@[simp] theorem State.setPending_port (s : State) (q : List Instr) : (s.setPending q).port = s.port := rfl
@[simp] theorem State.setPending_pacing (s : State) (q : List Instr) : (s.setPending q).pacing = s.pacing := rfl
@[simp] theorem State.setPending_store (s : State) (q : List Instr) : (s.setPending q).store = s.store := rfl
@[simp] theorem State.setPending_segs (s : State) (q : List Instr) : (s.setPending q).segs = s.segs := rfl
@[simp] theorem State.setPending_stations (s : State) (q : List Instr) : (s.setPending q).stations = s.stations := rfl
@[simp] theorem State.setPending_demand (s : State) (q : List Instr) : (s.setPending q).demand = s.demand := rfl
@[simp] theorem State.setPending_groups (s : State) (q : List Instr) : (s.setPending q).groups = s.groups := rfl
@[simp] theorem State.setPending_setpoints (s : State) (q : List Instr) : (s.setPending q).setpoints = s.setpoints := rfl
@[simp] theorem State.setPending_directs (s : State) (q : List Instr) : (s.setPending q).directs = s.directs := rfl
@[simp] theorem State.setPending_check (s : State) (q : List Instr) : (s.setPending q).check = s.check := rfl
@[simp] theorem State.setPending_lastCheck (s : State) (q : List Instr) : (s.setPending q).lastCheck = s.lastCheck := rfl
@[simp] theorem State.setPending_mgmt (s : State) (q : List Instr) : (s.setPending q).mgmt = s.mgmt := rfl
@[simp] theorem State.setPending_report (s : State) (q : List Instr) : (s.setPending q).report = s.report := rfl
@[simp] theorem State.setPending_free (s : State) (q : List Instr) : (s.setPending q).free = s.free := rfl

@[simp] theorem State.setPort_now (s : State) (x : Port) : (s.setPort x).now = s.now := rfl
@[simp] theorem State.setPort_pending (s : State) (x : Port) : (s.setPort x).pending = s.pending := rfl
@[simp] theorem State.setPort_port (s : State) (x : Port) : (s.setPort x).port = x := rfl
@[simp] theorem State.setPort_pacing (s : State) (x : Port) : (s.setPort x).pacing = s.pacing := rfl
@[simp] theorem State.setPort_store (s : State) (x : Port) : (s.setPort x).store = s.store := rfl
@[simp] theorem State.setPort_segs (s : State) (x : Port) : (s.setPort x).segs = s.segs := rfl
@[simp] theorem State.setPort_stations (s : State) (x : Port) : (s.setPort x).stations = s.stations := rfl
@[simp] theorem State.setPort_demand (s : State) (x : Port) : (s.setPort x).demand = s.demand := rfl
@[simp] theorem State.setPort_groups (s : State) (x : Port) : (s.setPort x).groups = s.groups := rfl
@[simp] theorem State.setPort_setpoints (s : State) (x : Port) : (s.setPort x).setpoints = s.setpoints := rfl
@[simp] theorem State.setPort_directs (s : State) (x : Port) : (s.setPort x).directs = s.directs := rfl
@[simp] theorem State.setPort_check (s : State) (x : Port) : (s.setPort x).check = s.check := rfl
@[simp] theorem State.setPort_lastCheck (s : State) (x : Port) : (s.setPort x).lastCheck = s.lastCheck := rfl
@[simp] theorem State.setPort_mgmt (s : State) (x : Port) : (s.setPort x).mgmt = s.mgmt := rfl
@[simp] theorem State.setPort_report (s : State) (x : Port) : (s.setPort x).report = s.report := rfl
@[simp] theorem State.setPort_free (s : State) (x : Port) : (s.setPort x).free = s.free := rfl

@[simp] theorem State.setPacing_now (s : State) (x : Pacing) : (s.setPacing x).now = s.now := rfl
@[simp] theorem State.setPacing_pending (s : State) (x : Pacing) : (s.setPacing x).pending = s.pending := rfl
@[simp] theorem State.setPacing_port (s : State) (x : Pacing) : (s.setPacing x).port = s.port := rfl
@[simp] theorem State.setPacing_pacing (s : State) (x : Pacing) : (s.setPacing x).pacing = x := rfl
@[simp] theorem State.setPacing_store (s : State) (x : Pacing) : (s.setPacing x).store = s.store := rfl
@[simp] theorem State.setPacing_segs (s : State) (x : Pacing) : (s.setPacing x).segs = s.segs := rfl
@[simp] theorem State.setPacing_stations (s : State) (x : Pacing) : (s.setPacing x).stations = s.stations := rfl
@[simp] theorem State.setPacing_demand (s : State) (x : Pacing) : (s.setPacing x).demand = s.demand := rfl
@[simp] theorem State.setPacing_groups (s : State) (x : Pacing) : (s.setPacing x).groups = s.groups := rfl
@[simp] theorem State.setPacing_setpoints (s : State) (x : Pacing) : (s.setPacing x).setpoints = s.setpoints := rfl
@[simp] theorem State.setPacing_directs (s : State) (x : Pacing) : (s.setPacing x).directs = s.directs := rfl
@[simp] theorem State.setPacing_check (s : State) (x : Pacing) : (s.setPacing x).check = s.check := rfl
@[simp] theorem State.setPacing_lastCheck (s : State) (x : Pacing) : (s.setPacing x).lastCheck = s.lastCheck := rfl
@[simp] theorem State.setPacing_mgmt (s : State) (x : Pacing) : (s.setPacing x).mgmt = s.mgmt := rfl
@[simp] theorem State.setPacing_report (s : State) (x : Pacing) : (s.setPacing x).report = s.report := rfl
@[simp] theorem State.setPacing_free (s : State) (x : Pacing) : (s.setPacing x).free = s.free := rfl

@[simp] theorem State.setStore_now (s : State) (x : Store) : (s.setStore x).now = s.now := rfl
@[simp] theorem State.setStore_pending (s : State) (x : Store) : (s.setStore x).pending = s.pending := rfl
@[simp] theorem State.setStore_port (s : State) (x : Store) : (s.setStore x).port = s.port := rfl
@[simp] theorem State.setStore_pacing (s : State) (x : Store) : (s.setStore x).pacing = s.pacing := rfl
@[simp] theorem State.setStore_store (s : State) (x : Store) : (s.setStore x).store = x := rfl
@[simp] theorem State.setStore_segs (s : State) (x : Store) : (s.setStore x).segs = s.segs := rfl
@[simp] theorem State.setStore_stations (s : State) (x : Store) : (s.setStore x).stations = s.stations := rfl
@[simp] theorem State.setStore_demand (s : State) (x : Store) : (s.setStore x).demand = s.demand := rfl
@[simp] theorem State.setStore_groups (s : State) (x : Store) : (s.setStore x).groups = s.groups := rfl
@[simp] theorem State.setStore_setpoints (s : State) (x : Store) : (s.setStore x).setpoints = s.setpoints := rfl
@[simp] theorem State.setStore_directs (s : State) (x : Store) : (s.setStore x).directs = s.directs := rfl
@[simp] theorem State.setStore_check (s : State) (x : Store) : (s.setStore x).check = s.check := rfl
@[simp] theorem State.setStore_lastCheck (s : State) (x : Store) : (s.setStore x).lastCheck = s.lastCheck := rfl
@[simp] theorem State.setStore_mgmt (s : State) (x : Store) : (s.setStore x).mgmt = s.mgmt := rfl
@[simp] theorem State.setStore_report (s : State) (x : Store) : (s.setStore x).report = s.report := rfl
@[simp] theorem State.setStore_free (s : State) (x : Store) : (s.setStore x).free = s.free := rfl

@[simp] theorem State.setSegs_now (s : State) (x : Two Segment) : (s.setSegs x).now = s.now := rfl
@[simp] theorem State.setSegs_pending (s : State) (x : Two Segment) : (s.setSegs x).pending = s.pending := rfl
@[simp] theorem State.setSegs_port (s : State) (x : Two Segment) : (s.setSegs x).port = s.port := rfl
@[simp] theorem State.setSegs_pacing (s : State) (x : Two Segment) : (s.setSegs x).pacing = s.pacing := rfl
@[simp] theorem State.setSegs_store (s : State) (x : Two Segment) : (s.setSegs x).store = s.store := rfl
@[simp] theorem State.setSegs_segs (s : State) (x : Two Segment) : (s.setSegs x).segs = x := rfl
@[simp] theorem State.setSegs_stations (s : State) (x : Two Segment) : (s.setSegs x).stations = s.stations := rfl
@[simp] theorem State.setSegs_demand (s : State) (x : Two Segment) : (s.setSegs x).demand = s.demand := rfl
@[simp] theorem State.setSegs_groups (s : State) (x : Two Segment) : (s.setSegs x).groups = s.groups := rfl
@[simp] theorem State.setSegs_setpoints (s : State) (x : Two Segment) : (s.setSegs x).setpoints = s.setpoints := rfl
@[simp] theorem State.setSegs_directs (s : State) (x : Two Segment) : (s.setSegs x).directs = s.directs := rfl
@[simp] theorem State.setSegs_check (s : State) (x : Two Segment) : (s.setSegs x).check = s.check := rfl
@[simp] theorem State.setSegs_lastCheck (s : State) (x : Two Segment) : (s.setSegs x).lastCheck = s.lastCheck := rfl
@[simp] theorem State.setSegs_mgmt (s : State) (x : Two Segment) : (s.setSegs x).mgmt = s.mgmt := rfl
@[simp] theorem State.setSegs_report (s : State) (x : Two Segment) : (s.setSegs x).report = s.report := rfl
@[simp] theorem State.setSegs_free (s : State) (x : Two Segment) : (s.setSegs x).free = s.free := rfl

@[simp] theorem State.setStations_now (s : State) (x : Four StationRt) : (s.setStations x).now = s.now := rfl
@[simp] theorem State.setStations_pending (s : State) (x : Four StationRt) : (s.setStations x).pending = s.pending := rfl
@[simp] theorem State.setStations_port (s : State) (x : Four StationRt) : (s.setStations x).port = s.port := rfl
@[simp] theorem State.setStations_pacing (s : State) (x : Four StationRt) : (s.setStations x).pacing = s.pacing := rfl
@[simp] theorem State.setStations_store (s : State) (x : Four StationRt) : (s.setStations x).store = s.store := rfl
@[simp] theorem State.setStations_segs (s : State) (x : Four StationRt) : (s.setStations x).segs = s.segs := rfl
@[simp] theorem State.setStations_stations (s : State) (x : Four StationRt) : (s.setStations x).stations = x := rfl
@[simp] theorem State.setStations_demand (s : State) (x : Four StationRt) : (s.setStations x).demand = s.demand := rfl
@[simp] theorem State.setStations_groups (s : State) (x : Four StationRt) : (s.setStations x).groups = s.groups := rfl
@[simp] theorem State.setStations_setpoints (s : State) (x : Four StationRt) : (s.setStations x).setpoints = s.setpoints := rfl
@[simp] theorem State.setStations_directs (s : State) (x : Four StationRt) : (s.setStations x).directs = s.directs := rfl
@[simp] theorem State.setStations_check (s : State) (x : Four StationRt) : (s.setStations x).check = s.check := rfl
@[simp] theorem State.setStations_lastCheck (s : State) (x : Four StationRt) : (s.setStations x).lastCheck = s.lastCheck := rfl
@[simp] theorem State.setStations_mgmt (s : State) (x : Four StationRt) : (s.setStations x).mgmt = s.mgmt := rfl
@[simp] theorem State.setStations_report (s : State) (x : Four StationRt) : (s.setStations x).report = s.report := rfl
@[simp] theorem State.setStations_free (s : State) (x : Four StationRt) : (s.setStations x).free = s.free := rfl

@[simp] theorem State.setDemand_now (s : State) (x : EffDemand) : (s.setDemand x).now = s.now := rfl
@[simp] theorem State.setDemand_pending (s : State) (x : EffDemand) : (s.setDemand x).pending = s.pending := rfl
@[simp] theorem State.setDemand_port (s : State) (x : EffDemand) : (s.setDemand x).port = s.port := rfl
@[simp] theorem State.setDemand_pacing (s : State) (x : EffDemand) : (s.setDemand x).pacing = s.pacing := rfl
@[simp] theorem State.setDemand_store (s : State) (x : EffDemand) : (s.setDemand x).store = s.store := rfl
@[simp] theorem State.setDemand_segs (s : State) (x : EffDemand) : (s.setDemand x).segs = s.segs := rfl
@[simp] theorem State.setDemand_stations (s : State) (x : EffDemand) : (s.setDemand x).stations = s.stations := rfl
@[simp] theorem State.setDemand_demand (s : State) (x : EffDemand) : (s.setDemand x).demand = x := rfl
@[simp] theorem State.setDemand_groups (s : State) (x : EffDemand) : (s.setDemand x).groups = s.groups := rfl
@[simp] theorem State.setDemand_setpoints (s : State) (x : EffDemand) : (s.setDemand x).setpoints = s.setpoints := rfl
@[simp] theorem State.setDemand_directs (s : State) (x : EffDemand) : (s.setDemand x).directs = s.directs := rfl
@[simp] theorem State.setDemand_check (s : State) (x : EffDemand) : (s.setDemand x).check = s.check := rfl
@[simp] theorem State.setDemand_lastCheck (s : State) (x : EffDemand) : (s.setDemand x).lastCheck = s.lastCheck := rfl
@[simp] theorem State.setDemand_mgmt (s : State) (x : EffDemand) : (s.setDemand x).mgmt = s.mgmt := rfl
@[simp] theorem State.setDemand_report (s : State) (x : EffDemand) : (s.setDemand x).report = s.report := rfl
@[simp] theorem State.setDemand_free (s : State) (x : EffDemand) : (s.setDemand x).free = s.free := rfl

@[simp] theorem State.setGroups_now (s : State) (x : Two GroupRt) : (s.setGroups x).now = s.now := rfl
@[simp] theorem State.setGroups_pending (s : State) (x : Two GroupRt) : (s.setGroups x).pending = s.pending := rfl
@[simp] theorem State.setGroups_port (s : State) (x : Two GroupRt) : (s.setGroups x).port = s.port := rfl
@[simp] theorem State.setGroups_pacing (s : State) (x : Two GroupRt) : (s.setGroups x).pacing = s.pacing := rfl
@[simp] theorem State.setGroups_store (s : State) (x : Two GroupRt) : (s.setGroups x).store = s.store := rfl
@[simp] theorem State.setGroups_segs (s : State) (x : Two GroupRt) : (s.setGroups x).segs = s.segs := rfl
@[simp] theorem State.setGroups_stations (s : State) (x : Two GroupRt) : (s.setGroups x).stations = s.stations := rfl
@[simp] theorem State.setGroups_demand (s : State) (x : Two GroupRt) : (s.setGroups x).demand = s.demand := rfl
@[simp] theorem State.setGroups_groups (s : State) (x : Two GroupRt) : (s.setGroups x).groups = x := rfl
@[simp] theorem State.setGroups_setpoints (s : State) (x : Two GroupRt) : (s.setGroups x).setpoints = s.setpoints := rfl
@[simp] theorem State.setGroups_directs (s : State) (x : Two GroupRt) : (s.setGroups x).directs = s.directs := rfl
@[simp] theorem State.setGroups_check (s : State) (x : Two GroupRt) : (s.setGroups x).check = s.check := rfl
@[simp] theorem State.setGroups_lastCheck (s : State) (x : Two GroupRt) : (s.setGroups x).lastCheck = s.lastCheck := rfl
@[simp] theorem State.setGroups_mgmt (s : State) (x : Two GroupRt) : (s.setGroups x).mgmt = s.mgmt := rfl
@[simp] theorem State.setGroups_report (s : State) (x : Two GroupRt) : (s.setGroups x).report = s.report := rfl
@[simp] theorem State.setGroups_free (s : State) (x : Two GroupRt) : (s.setGroups x).free = s.free := rfl

@[simp] theorem State.setSetpoints_now (s : State) (x : Four SetPoint) : (s.setSetpoints x).now = s.now := rfl
@[simp] theorem State.setSetpoints_pending (s : State) (x : Four SetPoint) : (s.setSetpoints x).pending = s.pending := rfl
@[simp] theorem State.setSetpoints_port (s : State) (x : Four SetPoint) : (s.setSetpoints x).port = s.port := rfl
@[simp] theorem State.setSetpoints_pacing (s : State) (x : Four SetPoint) : (s.setSetpoints x).pacing = s.pacing := rfl
@[simp] theorem State.setSetpoints_store (s : State) (x : Four SetPoint) : (s.setSetpoints x).store = s.store := rfl
@[simp] theorem State.setSetpoints_segs (s : State) (x : Four SetPoint) : (s.setSetpoints x).segs = s.segs := rfl
@[simp] theorem State.setSetpoints_stations (s : State) (x : Four SetPoint) : (s.setSetpoints x).stations = s.stations := rfl
@[simp] theorem State.setSetpoints_demand (s : State) (x : Four SetPoint) : (s.setSetpoints x).demand = s.demand := rfl
@[simp] theorem State.setSetpoints_groups (s : State) (x : Four SetPoint) : (s.setSetpoints x).groups = s.groups := rfl
@[simp] theorem State.setSetpoints_setpoints (s : State) (x : Four SetPoint) : (s.setSetpoints x).setpoints = x := rfl
@[simp] theorem State.setSetpoints_directs (s : State) (x : Four SetPoint) : (s.setSetpoints x).directs = s.directs := rfl
@[simp] theorem State.setSetpoints_check (s : State) (x : Four SetPoint) : (s.setSetpoints x).check = s.check := rfl
@[simp] theorem State.setSetpoints_lastCheck (s : State) (x : Four SetPoint) : (s.setSetpoints x).lastCheck = s.lastCheck := rfl
@[simp] theorem State.setSetpoints_mgmt (s : State) (x : Four SetPoint) : (s.setSetpoints x).mgmt = s.mgmt := rfl
@[simp] theorem State.setSetpoints_report (s : State) (x : Four SetPoint) : (s.setSetpoints x).report = s.report := rfl
@[simp] theorem State.setSetpoints_free (s : State) (x : Four SetPoint) : (s.setSetpoints x).free = s.free := rfl

@[simp] theorem State.setDirects_now (s : State) (x : Four Direct) : (s.setDirects x).now = s.now := rfl
@[simp] theorem State.setDirects_pending (s : State) (x : Four Direct) : (s.setDirects x).pending = s.pending := rfl
@[simp] theorem State.setDirects_port (s : State) (x : Four Direct) : (s.setDirects x).port = s.port := rfl
@[simp] theorem State.setDirects_pacing (s : State) (x : Four Direct) : (s.setDirects x).pacing = s.pacing := rfl
@[simp] theorem State.setDirects_store (s : State) (x : Four Direct) : (s.setDirects x).store = s.store := rfl
@[simp] theorem State.setDirects_segs (s : State) (x : Four Direct) : (s.setDirects x).segs = s.segs := rfl
@[simp] theorem State.setDirects_stations (s : State) (x : Four Direct) : (s.setDirects x).stations = s.stations := rfl
@[simp] theorem State.setDirects_demand (s : State) (x : Four Direct) : (s.setDirects x).demand = s.demand := rfl
@[simp] theorem State.setDirects_groups (s : State) (x : Four Direct) : (s.setDirects x).groups = s.groups := rfl
@[simp] theorem State.setDirects_setpoints (s : State) (x : Four Direct) : (s.setDirects x).setpoints = s.setpoints := rfl
@[simp] theorem State.setDirects_directs (s : State) (x : Four Direct) : (s.setDirects x).directs = x := rfl
@[simp] theorem State.setDirects_check (s : State) (x : Four Direct) : (s.setDirects x).check = s.check := rfl
@[simp] theorem State.setDirects_lastCheck (s : State) (x : Four Direct) : (s.setDirects x).lastCheck = s.lastCheck := rfl
@[simp] theorem State.setDirects_mgmt (s : State) (x : Four Direct) : (s.setDirects x).mgmt = s.mgmt := rfl
@[simp] theorem State.setDirects_report (s : State) (x : Four Direct) : (s.setDirects x).report = s.report := rfl
@[simp] theorem State.setDirects_free (s : State) (x : Four Direct) : (s.setDirects x).free = s.free := rfl

@[simp] theorem State.setCheck_now (s : State) (x : CheckContext) : (s.setCheck x).now = s.now := rfl
@[simp] theorem State.setCheck_pending (s : State) (x : CheckContext) : (s.setCheck x).pending = s.pending := rfl
@[simp] theorem State.setCheck_port (s : State) (x : CheckContext) : (s.setCheck x).port = s.port := rfl
@[simp] theorem State.setCheck_pacing (s : State) (x : CheckContext) : (s.setCheck x).pacing = s.pacing := rfl
@[simp] theorem State.setCheck_store (s : State) (x : CheckContext) : (s.setCheck x).store = s.store := rfl
@[simp] theorem State.setCheck_segs (s : State) (x : CheckContext) : (s.setCheck x).segs = s.segs := rfl
@[simp] theorem State.setCheck_stations (s : State) (x : CheckContext) : (s.setCheck x).stations = s.stations := rfl
@[simp] theorem State.setCheck_demand (s : State) (x : CheckContext) : (s.setCheck x).demand = s.demand := rfl
@[simp] theorem State.setCheck_groups (s : State) (x : CheckContext) : (s.setCheck x).groups = s.groups := rfl
@[simp] theorem State.setCheck_setpoints (s : State) (x : CheckContext) : (s.setCheck x).setpoints = s.setpoints := rfl
@[simp] theorem State.setCheck_directs (s : State) (x : CheckContext) : (s.setCheck x).directs = s.directs := rfl
@[simp] theorem State.setCheck_check (s : State) (x : CheckContext) : (s.setCheck x).check = x := rfl
@[simp] theorem State.setCheck_lastCheck (s : State) (x : CheckContext) : (s.setCheck x).lastCheck = s.lastCheck := rfl
@[simp] theorem State.setCheck_mgmt (s : State) (x : CheckContext) : (s.setCheck x).mgmt = s.mgmt := rfl
@[simp] theorem State.setCheck_report (s : State) (x : CheckContext) : (s.setCheck x).report = s.report := rfl
@[simp] theorem State.setCheck_free (s : State) (x : CheckContext) : (s.setCheck x).free = s.free := rfl

@[simp] theorem State.setLastCheck_now (s : State) (x : LastCheck) : (s.setLastCheck x).now = s.now := rfl
@[simp] theorem State.setLastCheck_pending (s : State) (x : LastCheck) : (s.setLastCheck x).pending = s.pending := rfl
@[simp] theorem State.setLastCheck_port (s : State) (x : LastCheck) : (s.setLastCheck x).port = s.port := rfl
@[simp] theorem State.setLastCheck_pacing (s : State) (x : LastCheck) : (s.setLastCheck x).pacing = s.pacing := rfl
@[simp] theorem State.setLastCheck_store (s : State) (x : LastCheck) : (s.setLastCheck x).store = s.store := rfl
@[simp] theorem State.setLastCheck_segs (s : State) (x : LastCheck) : (s.setLastCheck x).segs = s.segs := rfl
@[simp] theorem State.setLastCheck_stations (s : State) (x : LastCheck) : (s.setLastCheck x).stations = s.stations := rfl
@[simp] theorem State.setLastCheck_demand (s : State) (x : LastCheck) : (s.setLastCheck x).demand = s.demand := rfl
@[simp] theorem State.setLastCheck_groups (s : State) (x : LastCheck) : (s.setLastCheck x).groups = s.groups := rfl
@[simp] theorem State.setLastCheck_setpoints (s : State) (x : LastCheck) : (s.setLastCheck x).setpoints = s.setpoints := rfl
@[simp] theorem State.setLastCheck_directs (s : State) (x : LastCheck) : (s.setLastCheck x).directs = s.directs := rfl
@[simp] theorem State.setLastCheck_check (s : State) (x : LastCheck) : (s.setLastCheck x).check = s.check := rfl
@[simp] theorem State.setLastCheck_lastCheck (s : State) (x : LastCheck) : (s.setLastCheck x).lastCheck = x := rfl
@[simp] theorem State.setLastCheck_mgmt (s : State) (x : LastCheck) : (s.setLastCheck x).mgmt = s.mgmt := rfl
@[simp] theorem State.setLastCheck_report (s : State) (x : LastCheck) : (s.setLastCheck x).report = s.report := rfl
@[simp] theorem State.setLastCheck_free (s : State) (x : LastCheck) : (s.setLastCheck x).free = s.free := rfl

@[simp] theorem State.setMgmt_now (s : State) (x : Mgmt) : (s.setMgmt x).now = s.now := rfl
@[simp] theorem State.setMgmt_pending (s : State) (x : Mgmt) : (s.setMgmt x).pending = s.pending := rfl
@[simp] theorem State.setMgmt_port (s : State) (x : Mgmt) : (s.setMgmt x).port = s.port := rfl
@[simp] theorem State.setMgmt_pacing (s : State) (x : Mgmt) : (s.setMgmt x).pacing = s.pacing := rfl
@[simp] theorem State.setMgmt_store (s : State) (x : Mgmt) : (s.setMgmt x).store = s.store := rfl
@[simp] theorem State.setMgmt_segs (s : State) (x : Mgmt) : (s.setMgmt x).segs = s.segs := rfl
@[simp] theorem State.setMgmt_stations (s : State) (x : Mgmt) : (s.setMgmt x).stations = s.stations := rfl
@[simp] theorem State.setMgmt_demand (s : State) (x : Mgmt) : (s.setMgmt x).demand = s.demand := rfl
@[simp] theorem State.setMgmt_groups (s : State) (x : Mgmt) : (s.setMgmt x).groups = s.groups := rfl
@[simp] theorem State.setMgmt_setpoints (s : State) (x : Mgmt) : (s.setMgmt x).setpoints = s.setpoints := rfl
@[simp] theorem State.setMgmt_directs (s : State) (x : Mgmt) : (s.setMgmt x).directs = s.directs := rfl
@[simp] theorem State.setMgmt_check (s : State) (x : Mgmt) : (s.setMgmt x).check = s.check := rfl
@[simp] theorem State.setMgmt_lastCheck (s : State) (x : Mgmt) : (s.setMgmt x).lastCheck = s.lastCheck := rfl
@[simp] theorem State.setMgmt_mgmt (s : State) (x : Mgmt) : (s.setMgmt x).mgmt = x := rfl
@[simp] theorem State.setMgmt_report (s : State) (x : Mgmt) : (s.setMgmt x).report = s.report := rfl
@[simp] theorem State.setMgmt_free (s : State) (x : Mgmt) : (s.setMgmt x).free = s.free := rfl

@[simp] theorem State.setReport_now (s : State) (x : Report) : (s.setReport x).now = s.now := rfl
@[simp] theorem State.setReport_pending (s : State) (x : Report) : (s.setReport x).pending = s.pending := rfl
@[simp] theorem State.setReport_port (s : State) (x : Report) : (s.setReport x).port = s.port := rfl
@[simp] theorem State.setReport_pacing (s : State) (x : Report) : (s.setReport x).pacing = s.pacing := rfl
@[simp] theorem State.setReport_store (s : State) (x : Report) : (s.setReport x).store = s.store := rfl
@[simp] theorem State.setReport_segs (s : State) (x : Report) : (s.setReport x).segs = s.segs := rfl
@[simp] theorem State.setReport_stations (s : State) (x : Report) : (s.setReport x).stations = s.stations := rfl
@[simp] theorem State.setReport_demand (s : State) (x : Report) : (s.setReport x).demand = s.demand := rfl
@[simp] theorem State.setReport_groups (s : State) (x : Report) : (s.setReport x).groups = s.groups := rfl
@[simp] theorem State.setReport_setpoints (s : State) (x : Report) : (s.setReport x).setpoints = s.setpoints := rfl
@[simp] theorem State.setReport_directs (s : State) (x : Report) : (s.setReport x).directs = s.directs := rfl
@[simp] theorem State.setReport_check (s : State) (x : Report) : (s.setReport x).check = s.check := rfl
@[simp] theorem State.setReport_lastCheck (s : State) (x : Report) : (s.setReport x).lastCheck = s.lastCheck := rfl
@[simp] theorem State.setReport_mgmt (s : State) (x : Report) : (s.setReport x).mgmt = s.mgmt := rfl
@[simp] theorem State.setReport_report (s : State) (x : Report) : (s.setReport x).report = x := rfl
@[simp] theorem State.setReport_free (s : State) (x : Report) : (s.setReport x).free = s.free := rfl

@[simp] theorem State.setFree_now (s : State) (n : Nat) : (s.setFree n).now = s.now := rfl
@[simp] theorem State.setFree_pending (s : State) (n : Nat) : (s.setFree n).pending = s.pending := rfl
@[simp] theorem State.setFree_port (s : State) (n : Nat) : (s.setFree n).port = s.port := rfl
@[simp] theorem State.setFree_pacing (s : State) (n : Nat) : (s.setFree n).pacing = s.pacing := rfl
@[simp] theorem State.setFree_store (s : State) (n : Nat) : (s.setFree n).store = s.store := rfl
@[simp] theorem State.setFree_segs (s : State) (n : Nat) : (s.setFree n).segs = s.segs := rfl
@[simp] theorem State.setFree_stations (s : State) (n : Nat) : (s.setFree n).stations = s.stations := rfl
@[simp] theorem State.setFree_demand (s : State) (n : Nat) : (s.setFree n).demand = s.demand := rfl
@[simp] theorem State.setFree_groups (s : State) (n : Nat) : (s.setFree n).groups = s.groups := rfl
@[simp] theorem State.setFree_setpoints (s : State) (n : Nat) : (s.setFree n).setpoints = s.setpoints := rfl
@[simp] theorem State.setFree_directs (s : State) (n : Nat) : (s.setFree n).directs = s.directs := rfl
@[simp] theorem State.setFree_check (s : State) (n : Nat) : (s.setFree n).check = s.check := rfl
@[simp] theorem State.setFree_lastCheck (s : State) (n : Nat) : (s.setFree n).lastCheck = s.lastCheck := rfl
@[simp] theorem State.setFree_mgmt (s : State) (n : Nat) : (s.setFree n).mgmt = s.mgmt := rfl
@[simp] theorem State.setFree_report (s : State) (n : Nat) : (s.setFree n).report = s.report := rfl
@[simp] theorem State.setFree_free (s : State) (n : Nat) : (s.setFree n).free = n := rfl

@[simp] theorem State.setSeg_now (s : State) (g : Seg) (x : Segment) :
    (s.setSeg g x).now = s.now := rfl
@[simp] theorem State.setSeg_pending (s : State) (g : Seg) (x : Segment) :
    (s.setSeg g x).pending = s.pending := rfl
@[simp] theorem State.setSeg_port (s : State) (g : Seg) (x : Segment) :
    (s.setSeg g x).port = s.port := rfl
@[simp] theorem State.setSeg_pacing (s : State) (g : Seg) (x : Segment) :
    (s.setSeg g x).pacing = s.pacing := rfl
@[simp] theorem State.setSeg_store (s : State) (g : Seg) (x : Segment) :
    (s.setSeg g x).store = s.store := rfl
@[simp] theorem State.setSeg_segs (s : State) (g : Seg) (x : Segment) :
    (s.setSeg g x).segs = s.segs.set g.num x := rfl
@[simp] theorem State.setSeg_stations (s : State) (g : Seg) (x : Segment) :
    (s.setSeg g x).stations = s.stations := rfl
@[simp] theorem State.setSeg_demand (s : State) (g : Seg) (x : Segment) :
    (s.setSeg g x).demand = s.demand := rfl
@[simp] theorem State.setSeg_groups (s : State) (g : Seg) (x : Segment) :
    (s.setSeg g x).groups = s.groups := rfl
@[simp] theorem State.setSeg_setpoints (s : State) (g : Seg) (x : Segment) :
    (s.setSeg g x).setpoints = s.setpoints := rfl
@[simp] theorem State.setSeg_directs (s : State) (g : Seg) (x : Segment) :
    (s.setSeg g x).directs = s.directs := rfl
@[simp] theorem State.setSeg_check (s : State) (g : Seg) (x : Segment) :
    (s.setSeg g x).check = s.check := rfl
@[simp] theorem State.setSeg_lastCheck (s : State) (g : Seg) (x : Segment) :
    (s.setSeg g x).lastCheck = s.lastCheck := rfl
@[simp] theorem State.setSeg_mgmt (s : State) (g : Seg) (x : Segment) :
    (s.setSeg g x).mgmt = s.mgmt := rfl
@[simp] theorem State.setSeg_report (s : State) (g : Seg) (x : Segment) :
    (s.setSeg g x).report = s.report := rfl
@[simp] theorem State.setSeg_free (s : State) (g : Seg) (x : Segment) :
    (s.setSeg g x).free = s.free := rfl

@[simp] theorem State.setStation_now (s : State) (i : Fin 4) (x : StationRt) :
    (s.setStation i x).now = s.now := rfl
@[simp] theorem State.setStation_pending (s : State) (i : Fin 4) (x : StationRt) :
    (s.setStation i x).pending = s.pending := rfl
@[simp] theorem State.setStation_port (s : State) (i : Fin 4) (x : StationRt) :
    (s.setStation i x).port = s.port := rfl
@[simp] theorem State.setStation_pacing (s : State) (i : Fin 4) (x : StationRt) :
    (s.setStation i x).pacing = s.pacing := rfl
@[simp] theorem State.setStation_store (s : State) (i : Fin 4) (x : StationRt) :
    (s.setStation i x).store = s.store := rfl
@[simp] theorem State.setStation_segs (s : State) (i : Fin 4) (x : StationRt) :
    (s.setStation i x).segs = s.segs := rfl
@[simp] theorem State.setStation_stations (s : State) (i : Fin 4) (x : StationRt) :
    (s.setStation i x).stations = s.stations.set i x := rfl
@[simp] theorem State.setStation_demand (s : State) (i : Fin 4) (x : StationRt) :
    (s.setStation i x).demand = s.demand := rfl
@[simp] theorem State.setStation_groups (s : State) (i : Fin 4) (x : StationRt) :
    (s.setStation i x).groups = s.groups := rfl
@[simp] theorem State.setStation_setpoints (s : State) (i : Fin 4) (x : StationRt) :
    (s.setStation i x).setpoints = s.setpoints := rfl
@[simp] theorem State.setStation_directs (s : State) (i : Fin 4) (x : StationRt) :
    (s.setStation i x).directs = s.directs := rfl
@[simp] theorem State.setStation_check (s : State) (i : Fin 4) (x : StationRt) :
    (s.setStation i x).check = s.check := rfl
@[simp] theorem State.setStation_lastCheck (s : State) (i : Fin 4) (x : StationRt) :
    (s.setStation i x).lastCheck = s.lastCheck := rfl
@[simp] theorem State.setStation_mgmt (s : State) (i : Fin 4) (x : StationRt) :
    (s.setStation i x).mgmt = s.mgmt := rfl
@[simp] theorem State.setStation_report (s : State) (i : Fin 4) (x : StationRt) :
    (s.setStation i x).report = s.report := rfl
@[simp] theorem State.setStation_free (s : State) (i : Fin 4) (x : StationRt) :
    (s.setStation i x).free = s.free := rfl

@[simp] theorem State.setGroup_now (s : State) (g : Fin 2) (x : GroupRt) :
    (s.setGroup g x).now = s.now := rfl
@[simp] theorem State.setGroup_pending (s : State) (g : Fin 2) (x : GroupRt) :
    (s.setGroup g x).pending = s.pending := rfl
@[simp] theorem State.setGroup_port (s : State) (g : Fin 2) (x : GroupRt) :
    (s.setGroup g x).port = s.port := rfl
@[simp] theorem State.setGroup_pacing (s : State) (g : Fin 2) (x : GroupRt) :
    (s.setGroup g x).pacing = s.pacing := rfl
@[simp] theorem State.setGroup_store (s : State) (g : Fin 2) (x : GroupRt) :
    (s.setGroup g x).store = s.store := rfl
@[simp] theorem State.setGroup_segs (s : State) (g : Fin 2) (x : GroupRt) :
    (s.setGroup g x).segs = s.segs := rfl
@[simp] theorem State.setGroup_stations (s : State) (g : Fin 2) (x : GroupRt) :
    (s.setGroup g x).stations = s.stations := rfl
@[simp] theorem State.setGroup_demand (s : State) (g : Fin 2) (x : GroupRt) :
    (s.setGroup g x).demand = s.demand := rfl
@[simp] theorem State.setGroup_groups (s : State) (g : Fin 2) (x : GroupRt) :
    (s.setGroup g x).groups = s.groups.set g x := rfl
@[simp] theorem State.setGroup_setpoints (s : State) (g : Fin 2) (x : GroupRt) :
    (s.setGroup g x).setpoints = s.setpoints := rfl
@[simp] theorem State.setGroup_directs (s : State) (g : Fin 2) (x : GroupRt) :
    (s.setGroup g x).directs = s.directs := rfl
@[simp] theorem State.setGroup_check (s : State) (g : Fin 2) (x : GroupRt) :
    (s.setGroup g x).check = s.check := rfl
@[simp] theorem State.setGroup_lastCheck (s : State) (g : Fin 2) (x : GroupRt) :
    (s.setGroup g x).lastCheck = s.lastCheck := rfl
@[simp] theorem State.setGroup_mgmt (s : State) (g : Fin 2) (x : GroupRt) :
    (s.setGroup g x).mgmt = s.mgmt := rfl
@[simp] theorem State.setGroup_report (s : State) (g : Fin 2) (x : GroupRt) :
    (s.setGroup g x).report = s.report := rfl
@[simp] theorem State.setGroup_free (s : State) (g : Fin 2) (x : GroupRt) :
    (s.setGroup g x).free = s.free := rfl

@[simp] theorem State.setDirect_now (s : State) (i : Fin 4) (x : Direct) :
    (s.setDirect i x).now = s.now := rfl
@[simp] theorem State.setDirect_pending (s : State) (i : Fin 4) (x : Direct) :
    (s.setDirect i x).pending = s.pending := rfl
@[simp] theorem State.setDirect_port (s : State) (i : Fin 4) (x : Direct) :
    (s.setDirect i x).port = s.port := rfl
@[simp] theorem State.setDirect_pacing (s : State) (i : Fin 4) (x : Direct) :
    (s.setDirect i x).pacing = s.pacing := rfl
@[simp] theorem State.setDirect_store (s : State) (i : Fin 4) (x : Direct) :
    (s.setDirect i x).store = s.store := rfl
@[simp] theorem State.setDirect_segs (s : State) (i : Fin 4) (x : Direct) :
    (s.setDirect i x).segs = s.segs := rfl
@[simp] theorem State.setDirect_stations (s : State) (i : Fin 4) (x : Direct) :
    (s.setDirect i x).stations = s.stations := rfl
@[simp] theorem State.setDirect_demand (s : State) (i : Fin 4) (x : Direct) :
    (s.setDirect i x).demand = s.demand := rfl
@[simp] theorem State.setDirect_groups (s : State) (i : Fin 4) (x : Direct) :
    (s.setDirect i x).groups = s.groups := rfl
@[simp] theorem State.setDirect_setpoints (s : State) (i : Fin 4) (x : Direct) :
    (s.setDirect i x).setpoints = s.setpoints := rfl
@[simp] theorem State.setDirect_directs (s : State) (i : Fin 4) (x : Direct) :
    (s.setDirect i x).directs = s.directs.set i x := rfl
@[simp] theorem State.setDirect_check (s : State) (i : Fin 4) (x : Direct) :
    (s.setDirect i x).check = s.check := rfl
@[simp] theorem State.setDirect_lastCheck (s : State) (i : Fin 4) (x : Direct) :
    (s.setDirect i x).lastCheck = s.lastCheck := rfl
@[simp] theorem State.setDirect_mgmt (s : State) (i : Fin 4) (x : Direct) :
    (s.setDirect i x).mgmt = s.mgmt := rfl
@[simp] theorem State.setDirect_report (s : State) (i : Fin 4) (x : Direct) :
    (s.setDirect i x).report = s.report := rfl
@[simp] theorem State.setDirect_free (s : State) (i : Fin 4) (x : Direct) :
    (s.setDirect i x).free = s.free := rfl

@[simp] theorem State.setSlot_now (s : State) (g : Seg) (k : Fin 4) (x : SlotRt) :
    (s.setSlot g k x).now = s.now := rfl
@[simp] theorem State.setSlot_pending (s : State) (g : Seg) (k : Fin 4) (x : SlotRt) :
    (s.setSlot g k x).pending = s.pending := rfl
@[simp] theorem State.setSlot_port (s : State) (g : Seg) (k : Fin 4) (x : SlotRt) :
    (s.setSlot g k x).port = s.port := rfl
@[simp] theorem State.setSlot_pacing (s : State) (g : Seg) (k : Fin 4) (x : SlotRt) :
    (s.setSlot g k x).pacing = s.pacing := rfl
@[simp] theorem State.setSlot_store (s : State) (g : Seg) (k : Fin 4) (x : SlotRt) :
    (s.setSlot g k x).store = s.store := rfl
@[simp] theorem State.setSlot_stations (s : State) (g : Seg) (k : Fin 4) (x : SlotRt) :
    (s.setSlot g k x).stations = s.stations := rfl
@[simp] theorem State.setSlot_demand (s : State) (g : Seg) (k : Fin 4) (x : SlotRt) :
    (s.setSlot g k x).demand = s.demand := rfl
@[simp] theorem State.setSlot_groups (s : State) (g : Seg) (k : Fin 4) (x : SlotRt) :
    (s.setSlot g k x).groups = s.groups := rfl
@[simp] theorem State.setSlot_setpoints (s : State) (g : Seg) (k : Fin 4) (x : SlotRt) :
    (s.setSlot g k x).setpoints = s.setpoints := rfl
@[simp] theorem State.setSlot_directs (s : State) (g : Seg) (k : Fin 4) (x : SlotRt) :
    (s.setSlot g k x).directs = s.directs := rfl
@[simp] theorem State.setSlot_check (s : State) (g : Seg) (k : Fin 4) (x : SlotRt) :
    (s.setSlot g k x).check = s.check := rfl
@[simp] theorem State.setSlot_lastCheck (s : State) (g : Seg) (k : Fin 4) (x : SlotRt) :
    (s.setSlot g k x).lastCheck = s.lastCheck := rfl
@[simp] theorem State.setSlot_mgmt (s : State) (g : Seg) (k : Fin 4) (x : SlotRt) :
    (s.setSlot g k x).mgmt = s.mgmt := rfl
@[simp] theorem State.setSlot_report (s : State) (g : Seg) (k : Fin 4) (x : SlotRt) :
    (s.setSlot g k x).report = s.report := rfl
@[simp] theorem State.setSlot_free (s : State) (g : Seg) (k : Fin 4) (x : SlotRt) :
    (s.setSlot g k x).free = s.free := rfl

@[simp] theorem State.seg_setSeg (s : State) (g h : Seg) (x : Segment) :
    (s.setSeg g x).seg h = if h = g then x else s.seg h := by
  simp [State.seg]

@[simp] theorem State.station_setStation (s : State) (i j : Fin 4) (x : StationRt) :
    (s.setStation i x).station j = if j = i then x else s.station j := by
  simp [State.station]

@[simp] theorem State.group_setGroup (s : State) (g h : Fin 2) (x : GroupRt) :
    (s.setGroup g x).group h = if h = g then x else s.group h := by
  simp [State.group]

@[simp] theorem State.direct_setDirect (s : State) (i j : Fin 4) (x : Direct) :
    (s.setDirect i x).direct j = if j = i then x else s.direct j := by
  simp [State.direct]

@[simp] theorem State.setNow_seg (s : State) (t : Nat) (h : Seg) :
    (s.setNow t).seg h = s.seg h := rfl
@[simp] theorem State.setNow_station (s : State) (t : Nat) (j : Fin 4) :
    (s.setNow t).station j = s.station j := rfl
@[simp] theorem State.setNow_group (s : State) (t : Nat) (j : Fin 2) :
    (s.setNow t).group j = s.group j := rfl
@[simp] theorem State.setNow_direct (s : State) (t : Nat) (j : Fin 4) :
    (s.setNow t).direct j = s.direct j := rfl
@[simp] theorem State.setPending_seg (s : State) (q : List Instr) (h : Seg) :
    (s.setPending q).seg h = s.seg h := rfl
@[simp] theorem State.setPending_station (s : State) (q : List Instr) (j : Fin 4) :
    (s.setPending q).station j = s.station j := rfl
@[simp] theorem State.setPending_group (s : State) (q : List Instr) (j : Fin 2) :
    (s.setPending q).group j = s.group j := rfl
@[simp] theorem State.setPending_direct (s : State) (q : List Instr) (j : Fin 4) :
    (s.setPending q).direct j = s.direct j := rfl
@[simp] theorem State.setPort_seg (s : State) (x : Port) (h : Seg) :
    (s.setPort x).seg h = s.seg h := rfl
@[simp] theorem State.setPort_station (s : State) (x : Port) (j : Fin 4) :
    (s.setPort x).station j = s.station j := rfl
@[simp] theorem State.setPort_group (s : State) (x : Port) (j : Fin 2) :
    (s.setPort x).group j = s.group j := rfl
@[simp] theorem State.setPort_direct (s : State) (x : Port) (j : Fin 4) :
    (s.setPort x).direct j = s.direct j := rfl
@[simp] theorem State.setPacing_seg (s : State) (x : Pacing) (h : Seg) :
    (s.setPacing x).seg h = s.seg h := rfl
@[simp] theorem State.setPacing_station (s : State) (x : Pacing) (j : Fin 4) :
    (s.setPacing x).station j = s.station j := rfl
@[simp] theorem State.setPacing_group (s : State) (x : Pacing) (j : Fin 2) :
    (s.setPacing x).group j = s.group j := rfl
@[simp] theorem State.setPacing_direct (s : State) (x : Pacing) (j : Fin 4) :
    (s.setPacing x).direct j = s.direct j := rfl
@[simp] theorem State.setStore_seg (s : State) (x : Store) (h : Seg) :
    (s.setStore x).seg h = s.seg h := rfl
@[simp] theorem State.setStore_station (s : State) (x : Store) (j : Fin 4) :
    (s.setStore x).station j = s.station j := rfl
@[simp] theorem State.setStore_group (s : State) (x : Store) (j : Fin 2) :
    (s.setStore x).group j = s.group j := rfl
@[simp] theorem State.setStore_direct (s : State) (x : Store) (j : Fin 4) :
    (s.setStore x).direct j = s.direct j := rfl
@[simp] theorem State.setSegs_station (s : State) (x : Two Segment) (j : Fin 4) :
    (s.setSegs x).station j = s.station j := rfl
@[simp] theorem State.setSegs_group (s : State) (x : Two Segment) (j : Fin 2) :
    (s.setSegs x).group j = s.group j := rfl
@[simp] theorem State.setSegs_direct (s : State) (x : Two Segment) (j : Fin 4) :
    (s.setSegs x).direct j = s.direct j := rfl
@[simp] theorem State.setStations_seg (s : State) (x : Four StationRt) (h : Seg) :
    (s.setStations x).seg h = s.seg h := rfl
@[simp] theorem State.setStations_group (s : State) (x : Four StationRt) (j : Fin 2) :
    (s.setStations x).group j = s.group j := rfl
@[simp] theorem State.setStations_direct (s : State) (x : Four StationRt) (j : Fin 4) :
    (s.setStations x).direct j = s.direct j := rfl
@[simp] theorem State.setDemand_seg (s : State) (x : EffDemand) (h : Seg) :
    (s.setDemand x).seg h = s.seg h := rfl
@[simp] theorem State.setDemand_station (s : State) (x : EffDemand) (j : Fin 4) :
    (s.setDemand x).station j = s.station j := rfl
@[simp] theorem State.setDemand_group (s : State) (x : EffDemand) (j : Fin 2) :
    (s.setDemand x).group j = s.group j := rfl
@[simp] theorem State.setDemand_direct (s : State) (x : EffDemand) (j : Fin 4) :
    (s.setDemand x).direct j = s.direct j := rfl
@[simp] theorem State.setGroups_seg (s : State) (x : Two GroupRt) (h : Seg) :
    (s.setGroups x).seg h = s.seg h := rfl
@[simp] theorem State.setGroups_station (s : State) (x : Two GroupRt) (j : Fin 4) :
    (s.setGroups x).station j = s.station j := rfl
@[simp] theorem State.setGroups_direct (s : State) (x : Two GroupRt) (j : Fin 4) :
    (s.setGroups x).direct j = s.direct j := rfl
@[simp] theorem State.setSetpoints_seg (s : State) (x : Four SetPoint) (h : Seg) :
    (s.setSetpoints x).seg h = s.seg h := rfl
@[simp] theorem State.setSetpoints_station (s : State) (x : Four SetPoint) (j : Fin 4) :
    (s.setSetpoints x).station j = s.station j := rfl
@[simp] theorem State.setSetpoints_group (s : State) (x : Four SetPoint) (j : Fin 2) :
    (s.setSetpoints x).group j = s.group j := rfl
@[simp] theorem State.setSetpoints_direct (s : State) (x : Four SetPoint) (j : Fin 4) :
    (s.setSetpoints x).direct j = s.direct j := rfl
@[simp] theorem State.setDirects_seg (s : State) (x : Four Direct) (h : Seg) :
    (s.setDirects x).seg h = s.seg h := rfl
@[simp] theorem State.setDirects_station (s : State) (x : Four Direct) (j : Fin 4) :
    (s.setDirects x).station j = s.station j := rfl
@[simp] theorem State.setDirects_group (s : State) (x : Four Direct) (j : Fin 2) :
    (s.setDirects x).group j = s.group j := rfl
@[simp] theorem State.setCheck_seg (s : State) (x : CheckContext) (h : Seg) :
    (s.setCheck x).seg h = s.seg h := rfl
@[simp] theorem State.setCheck_station (s : State) (x : CheckContext) (j : Fin 4) :
    (s.setCheck x).station j = s.station j := rfl
@[simp] theorem State.setCheck_group (s : State) (x : CheckContext) (j : Fin 2) :
    (s.setCheck x).group j = s.group j := rfl
@[simp] theorem State.setCheck_direct (s : State) (x : CheckContext) (j : Fin 4) :
    (s.setCheck x).direct j = s.direct j := rfl
@[simp] theorem State.setLastCheck_seg (s : State) (x : LastCheck) (h : Seg) :
    (s.setLastCheck x).seg h = s.seg h := rfl
@[simp] theorem State.setLastCheck_station (s : State) (x : LastCheck) (j : Fin 4) :
    (s.setLastCheck x).station j = s.station j := rfl
@[simp] theorem State.setLastCheck_group (s : State) (x : LastCheck) (j : Fin 2) :
    (s.setLastCheck x).group j = s.group j := rfl
@[simp] theorem State.setLastCheck_direct (s : State) (x : LastCheck) (j : Fin 4) :
    (s.setLastCheck x).direct j = s.direct j := rfl
@[simp] theorem State.setMgmt_seg (s : State) (x : Mgmt) (h : Seg) :
    (s.setMgmt x).seg h = s.seg h := rfl
@[simp] theorem State.setMgmt_station (s : State) (x : Mgmt) (j : Fin 4) :
    (s.setMgmt x).station j = s.station j := rfl
@[simp] theorem State.setMgmt_group (s : State) (x : Mgmt) (j : Fin 2) :
    (s.setMgmt x).group j = s.group j := rfl
@[simp] theorem State.setMgmt_direct (s : State) (x : Mgmt) (j : Fin 4) :
    (s.setMgmt x).direct j = s.direct j := rfl
@[simp] theorem State.setReport_seg (s : State) (x : Report) (h : Seg) :
    (s.setReport x).seg h = s.seg h := rfl
@[simp] theorem State.setReport_station (s : State) (x : Report) (j : Fin 4) :
    (s.setReport x).station j = s.station j := rfl
@[simp] theorem State.setReport_group (s : State) (x : Report) (j : Fin 2) :
    (s.setReport x).group j = s.group j := rfl
@[simp] theorem State.setReport_direct (s : State) (x : Report) (j : Fin 4) :
    (s.setReport x).direct j = s.direct j := rfl
@[simp] theorem State.setFree_seg (s : State) (n : Nat) (h : Seg) :
    (s.setFree n).seg h = s.seg h := rfl
@[simp] theorem State.setFree_station (s : State) (n : Nat) (j : Fin 4) :
    (s.setFree n).station j = s.station j := rfl
@[simp] theorem State.setFree_group (s : State) (n : Nat) (j : Fin 2) :
    (s.setFree n).group j = s.group j := rfl
@[simp] theorem State.setFree_direct (s : State) (n : Nat) (j : Fin 4) :
    (s.setFree n).direct j = s.direct j := rfl

@[simp] theorem State.setSeg_station (s : State) (g : Seg) (x : Segment) (j : Fin 4) :
    (s.setSeg g x).station j = s.station j := rfl
@[simp] theorem State.setSeg_group (s : State) (g : Seg) (x : Segment) (j : Fin 2) :
    (s.setSeg g x).group j = s.group j := rfl
@[simp] theorem State.setSeg_direct (s : State) (g : Seg) (x : Segment) (j : Fin 4) :
    (s.setSeg g x).direct j = s.direct j := rfl
@[simp] theorem State.setStation_seg (s : State) (i : Fin 4) (x : StationRt) (h : Seg) :
    (s.setStation i x).seg h = s.seg h := rfl
@[simp] theorem State.setStation_group (s : State) (i : Fin 4) (x : StationRt) (j : Fin 2) :
    (s.setStation i x).group j = s.group j := rfl
@[simp] theorem State.setStation_direct (s : State) (i : Fin 4) (x : StationRt) (j : Fin 4) :
    (s.setStation i x).direct j = s.direct j := rfl
@[simp] theorem State.setGroup_seg (s : State) (g : Fin 2) (x : GroupRt) (h : Seg) :
    (s.setGroup g x).seg h = s.seg h := rfl
@[simp] theorem State.setGroup_station (s : State) (g : Fin 2) (x : GroupRt) (j : Fin 4) :
    (s.setGroup g x).station j = s.station j := rfl
@[simp] theorem State.setGroup_direct (s : State) (g : Fin 2) (x : GroupRt) (j : Fin 4) :
    (s.setGroup g x).direct j = s.direct j := rfl
@[simp] theorem State.setDirect_seg (s : State) (i : Fin 4) (x : Direct) (h : Seg) :
    (s.setDirect i x).seg h = s.seg h := rfl
@[simp] theorem State.setDirect_station (s : State) (i : Fin 4) (x : Direct) (j : Fin 4) :
    (s.setDirect i x).station j = s.station j := rfl
@[simp] theorem State.setDirect_group (s : State) (i : Fin 4) (x : Direct) (j : Fin 2) :
    (s.setDirect i x).group j = s.group j := rfl
@[simp] theorem State.setSlot_station (s : State) (g : Seg) (k : Fin 4) (x : SlotRt) (j : Fin 4) :
    (s.setSlot g k x).station j = s.station j := rfl
@[simp] theorem State.setSlot_group (s : State) (g : Seg) (k : Fin 4) (x : SlotRt) (j : Fin 2) :
    (s.setSlot g k x).group j = s.group j := rfl
@[simp] theorem State.setSlot_direct (s : State) (g : Seg) (k : Fin 4) (x : SlotRt) (j : Fin 4) :
    (s.setSlot g k x).direct j = s.direct j := rfl

end Machine

end Sys2Proof
end

