-- ==== Sys2Proof/Laws/Stable.lean ====
section
/-! SUPPORT. What the operations keep: a property of State that survives each plain update, each event
and each latching of a flag survives every operation of the machine. The pending queue, the clock, the
configuration store and the form of the event queue are such properties. -/

namespace Sys2Proof.Machine

/-- A property that every update of the running machines keeps, but for the groups. -/
structure Stable (P : State → Prop) : Prop where
  port : ∀ s x, P s → P (s.setPort x)
  pacing : ∀ s x, P s → P (s.setPacing x)
  segs : ∀ s x, P s → P (s.setSegs x)
  stations : ∀ s x, P s → P (s.setStations x)
  demand : ∀ s x, P s → P (s.setDemand x)
  setpoints : ∀ s x, P s → P (s.setSetpoints x)
  directs : ∀ s x, P s → P (s.setDirects x)
  check : ∀ s x, P s → P (s.setCheck x)
  lastCheck : ∀ s x, P s → P (s.setLastCheck x)
  mgmt : ∀ s x, P s → P (s.setMgmt x)
  free : ∀ s n, P s → P (s.setFree n)
  event : ∀ s b, P s → P (writeEvent b s)
  latch : ∀ s f, P s → P (latch f s)

/-- A property that every update of the running machines keeps, the groups included. -/
structure StableAll (P : State → Prop) : Prop extends Stable P where
  groups : ∀ s x, P s → P (s.setGroups x)

variable {P : State → Prop} {s : State}

theorem stable_frameArrived (h : Stable P) (hs : P s) :
    P (frameArrived s) := by
  unfold frameArrived
  repeat' first
    | with_reducible exact hs | with_reducible apply h.port

theorem stable_setSeg (h : Stable P) (g : Seg) (x : Segment) (hs : P s) :
    P (s.setSeg g x) := by
  unfold State.setSeg
  repeat' first
    | with_reducible exact hs | with_reducible apply h.segs

theorem stable_setStation (h : Stable P) (i : Fin 4) (x : StationRt) (hs : P s) :
    P (s.setStation i x) := by
  unfold State.setStation
  repeat' first
    | with_reducible exact hs | with_reducible apply h.stations

theorem stable_setDirect (h : Stable P) (i : Fin 4) (x : Direct) (hs : P s) :
    P (s.setDirect i x) := by
  unfold State.setDirect
  repeat' first
    | with_reducible exact hs | with_reducible apply h.directs

theorem stable_setSlot (h : Stable P) (g : Seg) (k : Fin 4) (x : SlotRt) (hs : P s) :
    P (s.setSlot g k x) := by
  unfold State.setSlot
  repeat' first
    | with_reducible exact hs | with_reducible apply stable_setSeg h

theorem stable_setInit (h : Stable P) (i : Fin 4) (v : InitValues) (hs : P s) :
    P (setInit i v s) := by
  unfold setInit
  repeat' first
    | with_reducible exact hs | with_reducible apply stable_setStation h

theorem stable_groupEvent (h : Stable P) (g : Fin 2) (hs : P s) :
    P (groupEvent g s) := by
  unfold groupEvent
  repeat' first
    | with_reducible exact hs | with_reducible apply h.event

theorem stable_endDirect (h : Stable P) (c : EndCause) (i : Fin 4) (hs : P s) :
    P (endDirect c i s) := by
  unfold endDirect
  repeat' first
    | with_reducible exact hs | with_reducible apply h.event
    | with_reducible apply stable_setDirect h | split

theorem stable_endDirects (h : Stable P) (c : EndCause) (hs : P s) :
    P (endDirects c s) := by
  unfold endDirects
  repeat' first
    | with_reducible exact hs | with_reducible assumption
    | with_reducible apply stable_endDirect h | (with_reducible apply foldl_invariant P; intros)

theorem stable_endCheck (h : Stable P) (r : CheckResult) (q : CheckReason) (o : CheckOutcome) (hs : P s) :
    P (endCheck r q o s) := by
  unfold endCheck
  repeat' first
    | with_reducible exact hs | with_reducible apply h.check | with_reducible apply h.lastCheck
    | with_reducible apply h.event

theorem stable_abortCheck (h : Stable P) (r : CheckReason) (hs : P s) :
    P (abortCheck r s) := by
  unfold abortCheck
  repeat' first
    | with_reducible exact hs | with_reducible apply stable_endCheck h | split

theorem stable_emptyReported (h : Stable P) (items : List (ItemKind × Nat)) (hs : P s) :
    P (emptyReported items s) := by
  unfold emptyReported
  repeat' first
    | with_reducible exact hs | with_reducible assumption | with_reducible apply stable_setSlot h
    | (with_reducible apply foldl_invariant P; intros) | split

theorem stable_sendUplink (h : Stable P) (items : List (ItemKind × Nat)) (hs : P s) :
    P (sendUplink items s) := by
  unfold sendUplink
  repeat' first
    | with_reducible exact hs | with_reducible apply h.port | with_reducible apply h.mgmt

theorem stable_perCycleUplink (h : Stable P) (hs : P s) :
    P (perCycleUplink s) := by
  unfold perCycleUplink
  repeat' first
    | with_reducible exact hs | with_reducible apply h.port
    | with_reducible apply stable_emptyReported h | with_reducible apply stable_sendUplink h
    | split

theorem stable_immediateUplink (h : Stable P) (hs : P s) :
    P (immediateUplink s) := by
  unfold immediateUplink
  repeat' first
    | with_reducible exact hs | with_reducible apply h.port
    | with_reducible apply stable_sendUplink h

theorem stable_sendOwed (h : Stable P) (hs : P s) :
    P (sendOwed s) := by
  unfold sendOwed
  repeat' first
    | with_reducible exact hs | with_reducible apply h.port
    | with_reducible apply stable_immediateUplink h | split

theorem stable_dropRequest (h : Stable P) (hs : P s) :
    P (dropRequest s) := by
  unfold dropRequest
  repeat' first
    | with_reducible exact hs | with_reducible apply h.mgmt

theorem stable_placeReply (h : Stable P) (r : Reply) (hs : P s) :
    P (placeReply r s) := by
  unfold placeReply
  repeat' first
    | with_reducible exact hs | with_reducible apply h.port | with_reducible apply h.mgmt
    | with_reducible apply stable_immediateUplink h | split | extract_lets

theorem stable_segChange (h : Stable P) (g : Seg) (x : SegState) (r : SegReason) (hs : P s) :
    P (segChange g x r s) := by
  unfold segChange
  repeat' first
    | with_reducible exact hs | with_reducible apply h.event
    | with_reducible apply stable_setSeg h

theorem stable_clearBound (h : Stable P) (g : Seg) (hs : P s) :
    P (clearBound g s) := by
  unfold clearBound
  repeat' first
    | with_reducible exact hs | with_reducible assumption | with_reducible apply stable_setInit h
    | (with_reducible apply foldl_invariant P; intros)

theorem stable_installFallback (h : Stable P) (g : Seg) (hs : P s) :
    P (installFallback g s) := by
  unfold installFallback
  repeat' first
    | with_reducible exact hs | with_reducible assumption | with_reducible apply stable_setInit h
    | (with_reducible apply foldl_invariant P; intros)

theorem stable_endBoot (h : Stable P) (g : Seg) (hs : P s) :
    P (endBoot g s) := by
  unfold endBoot
  repeat' first
    | with_reducible exact hs | with_reducible assumption | with_reducible apply h.latch
    | with_reducible apply stable_setSeg h | with_reducible apply stable_setInit h
    | with_reducible apply stable_segChange h | (with_reducible apply foldl_invariant P; intros)
    | split | extract_lets

theorem stable_evalBoot (h : Stable P) (g : Seg) (hs : P s) :
    P (evalBoot g s) := by
  unfold evalBoot
  repeat' first
    | with_reducible exact hs | with_reducible apply stable_setSeg h
    | with_reducible apply stable_segChange h | with_reducible apply stable_endBoot h | split
    | extract_lets

theorem stable_recordClass (h : Stable P) (g : Seg) (k : Fin 4) (c : SlotClass) (hs : P s) :
    P (recordClass g k c s) := by
  unfold recordClass
  repeat' first
    | with_reducible exact hs | with_reducible apply h.latch
    | with_reducible apply stable_setSlot h | split

theorem stable_handOn (h : Stable P) (g : Seg) (k : Fin 4) (w : Window) (chars : List Byte) (hs : P s) :
    P (handOn g k w chars s) := by
  unfold handOn
  repeat' first
    | with_reducible exact hs | with_reducible apply stable_setSlot h
    | with_reducible apply stable_setInit h | split

theorem stable_dropRemainder (h : Stable P) (g : Seg) (k : Fin 4) (hs : P s) :
    P (dropRemainder g k s) := by
  unfold dropRemainder
  repeat' first
    | with_reducible exact hs | with_reducible apply stable_setSeg h | split

theorem stable_closeWindow (h : Stable P) (g : Seg) (k : Fin 4) (hs : P s) :
    P (closeWindow g k s) := by
  unfold closeWindow
  repeat' first
    | with_reducible exact hs | with_reducible apply stable_setSlot h
    | with_reducible apply stable_recordClass h | with_reducible apply stable_handOn h
    | with_reducible apply stable_dropRemainder h | split | extract_lets

theorem stable_clearSlew (h : Stable P) (g : Seg) (hs : P s) :
    P (clearSlew g s) := by
  unfold clearSlew
  repeat' first
    | with_reducible exact hs | with_reducible assumption
    | with_reducible apply stable_setStation h | (with_reducible apply foldl_invariant P; intros)
    | split | extract_lets

theorem stable_sendSync (h : Stable P) (g : Seg) (p : PendingSync) (hs : P s) :
    P (sendSync g p s) := by
  unfold sendSync
  repeat' first
    | with_reducible exact hs | with_reducible apply stable_setSeg h
    | with_reducible apply stable_clearSlew h | split

theorem stable_jam (h : Stable P) (g : Seg) (hs : P s) :
    P (jam g s) := by
  unfold jam
  repeat' first
    | with_reducible exact hs | with_reducible apply h.latch
    | with_reducible apply stable_segChange h

theorem stable_withholdSync (h : Stable P) (g : Seg) (hs : P s) :
    P (withholdSync g s) := by
  unfold withholdSync
  repeat' first
    | with_reducible exact hs | with_reducible apply stable_setSeg h
    | with_reducible apply stable_evalBoot h | with_reducible apply stable_jam h | split
    | extract_lets

theorem stable_syncFallsDue (h : Stable P) (g : Seg) (hs : P s) :
    P (syncFallsDue g s) := by
  unfold syncFallsDue
  repeat' first
    | with_reducible exact hs | with_reducible apply stable_setSeg h
    | with_reducible apply stable_sendSync h | with_reducible apply stable_withholdSync h | split
    | extract_lets

theorem stable_closeEarly (h : Stable P) (g : Seg) (k : Fin 4) (hs : P s) :
    P (closeEarly g k s) := by
  unfold closeEarly
  repeat' first
    | with_reducible exact hs | with_reducible apply stable_setSlot h
    | with_reducible apply stable_closeWindow h | split

theorem stable_closeEarlierCycle (h : Stable P) (g : Seg) (hs : P s) :
    P (closeEarlierCycle g s) := by
  unfold closeEarlierCycle
  repeat' first
    | with_reducible exact hs | with_reducible assumption | with_reducible apply stable_setSeg h
    | with_reducible apply stable_evalBoot h | with_reducible apply stable_closeEarly h
    | (with_reducible apply foldl_invariant P; intros) | split | extract_lets

theorem stable_leaveDown (h : Stable P) (g : Seg) (hs : P s) :
    P (leaveDown g s) := by
  unfold leaveDown
  repeat' first
    | with_reducible exact hs | with_reducible apply stable_setSeg h
    | with_reducible apply stable_segChange h | with_reducible apply stable_clearBound h
    | with_reducible apply stable_installFallback h | split

theorem stable_scheduleSync (h : Stable P) (g : Seg) (hs : P s) :
    P (scheduleSync g s) := by
  unfold scheduleSync
  repeat' first
    | with_reducible exact hs | with_reducible apply stable_setSeg h | split | extract_lets

theorem stable_segCycleBegin (h : Stable P) (g : Seg) (hs : P s) :
    P (segCycleBegin g s) := by
  unfold segCycleBegin
  repeat' first
    | with_reducible exact hs | with_reducible apply stable_closeEarlierCycle h
    | with_reducible apply stable_leaveDown h | with_reducible apply stable_scheduleSync h

theorem stable_haltDown (h : Stable P) (g : Seg) (hs : P s) :
    P (haltDown g s) := by
  unfold haltDown
  repeat' first
    | with_reducible exact hs | with_reducible apply stable_setSeg h
    | with_reducible apply stable_segChange h

theorem stable_segHalt (h : Stable P) (g : Seg) (hs : P s) :
    P (segHalt g s) := by
  unfold segHalt
  repeat' first
    | with_reducible exact hs | with_reducible apply stable_haltDown h | split

theorem stable_haltAfterSteps (h : Stable P) (g : Seg) (hs : P s) :
    P (haltAfterSteps g s) := by
  unfold haltAfterSteps
  repeat' first
    | with_reducible exact hs | with_reducible apply stable_haltDown h | split

theorem stable_segEvent (h : Stable P) (a b : Bool) (g : Seg) (hs : P s) :
    P (segEvent a b s g) := by
  unfold segEvent
  repeat' first
    | with_reducible exact hs | with_reducible apply h.free
    | with_reducible apply stable_segCycleBegin h | with_reducible apply stable_segHalt h
    | with_reducible apply stable_haltAfterSteps h | split | extract_lets

theorem stable_bothSegments (h : Stable P) (a b : Bool) (hs : P s) :
    P (bothSegments a b s) := by
  unfold bothSegments
  repeat' first
    | with_reducible exact hs | with_reducible apply h.free
    | with_reducible apply stable_segEvent h | split | extract_lets

theorem stable_strayReply (h : Stable P) (g : Seg) (hs : P s) :
    P (strayReply g s) := by
  unfold strayReply
  repeat' first
    | with_reducible exact hs | with_reducible apply stable_setSeg h

theorem stable_becomeCandidate (h : Stable P) (g : Seg) (k : Fin 4) (w : Window) (hs : P s) :
    P (becomeCandidate g k w s) := by
  unfold becomeCandidate
  repeat' first
    | with_reducible exact hs | with_reducible apply stable_setSeg h

theorem stable_replyStarts (h : Stable P) (g : Seg) (hs : P s) :
    P (replyStarts g s) := by
  unfold replyStarts
  repeat' first
    | with_reducible exact hs | with_reducible apply stable_setSeg h
    | with_reducible apply stable_strayReply h | with_reducible apply stable_becomeCandidate h
    | split | extract_lets

theorem stable_replyEnds (h : Stable P) (g : Seg) (chars : List Byte) (hs : P s) :
    P (replyEnds g chars s) := by
  unfold replyEnds
  repeat' first
    | with_reducible exact hs | with_reducible apply stable_setSeg h | split | extract_lets

theorem stable_windowOpens (h : Stable P) (g : Seg) (k : Fin 4) (hs : P s) :
    P (windowOpens g k s) := by
  unfold windowOpens
  repeat' first
    | with_reducible exact hs | with_reducible apply stable_setSlot h

theorem stable_windowCloses (h : Stable P) (g : Seg) (k : Fin 4) (hs : P s) :
    P (windowCloses g k s) := by
  unfold windowCloses
  repeat' first
    | with_reducible exact hs | with_reducible apply stable_evalBoot h
    | with_reducible apply stable_closeWindow h | split | extract_lets

theorem stable_clearJam (h : Stable P) (g : Seg) (hs : P s) :
    P (clearJam g s) := by
  unfold clearJam
  repeat' first
    | with_reducible exact hs | with_reducible apply stable_setSeg h
    | with_reducible apply stable_segChange h | split

theorem stable_pacingEvent (h : Stable P) (r : PacingReason) (hs : P s) :
    P (pacingEvent r s) := by
  unfold pacingEvent
  repeat' first
    | with_reducible exact hs | with_reducible apply h.event

theorem stable_anchorOn (h : Stable P) (i : BitVec 6) (hs : P s) :
    P (anchorOn i s) := by
  unfold anchorOn
  repeat' first
    | with_reducible exact hs | with_reducible apply h.pacing

theorem stable_cycleBegin (h : Stable P) (t : Nat) (i : BitVec 6) (hs : P s) :
    P (cycleBegin t i s) := by
  unfold cycleBegin
  repeat' first
    | with_reducible exact hs | with_reducible apply h.pacing

theorem stable_becomeHalted (h : Stable P) (r : HaltReason) (hs : P s) :
    P (becomeHalted r s) := by
  unfold becomeHalted
  repeat' first
    | with_reducible exact hs | with_reducible apply h.pacing | with_reducible apply h.latch
    | with_reducible apply stable_pacingEvent h | split

theorem stable_skewEvent (h : Stable P) (a i : BitVec 6) (hs : P s) :
    P (skewEvent a i s) := by
  unfold skewEvent
  repeat' first
    | with_reducible exact hs | with_reducible apply h.event | split

theorem stable_startCycle (h : Stable P) (i : BitVec 6) (hs : P s) :
    P (startCycle i s) := by
  unfold startCycle
  repeat' first
    | with_reducible exact hs | with_reducible apply stable_cycleBegin h
    | with_reducible apply stable_skewEvent h

theorem stable_startInListen (h : Stable P) (i : BitVec 6) (hs : P s) :
    P (startInListen i s) := by
  unfold startInListen
  repeat' first
    | with_reducible exact hs | with_reducible apply h.pacing
    | with_reducible apply stable_pacingEvent h | with_reducible apply stable_anchorOn h


theorem stable_startInAcquire (h : Stable P) (i : BitVec 6) (hs : P s) :
    P (startInAcquire i s) := by
  unfold startInAcquire
  repeat' first
    | with_reducible exact hs | with_reducible apply h.pacing
    | with_reducible apply stable_pacingEvent h | with_reducible apply stable_anchorOn h | split


theorem stable_confirmed (h : Stable P) (hs : P s) :
    P (confirmed s) := by
  unfold confirmed
  repeat' first
    | with_reducible exact hs | with_reducible apply h.pacing
    | with_reducible apply stable_pacingEvent h

theorem stable_earlyStart (h : Stable P) (hs : P s) :
    P (earlyStart s) := by
  unfold earlyStart
  repeat' first
    | with_reducible exact hs | with_reducible apply h.pacing | with_reducible apply h.latch

theorem stable_countGoodRun (h : Stable P) (g : Bool) (hs : P s) :
    P (countGoodRun g s) := by
  unfold countGoodRun
  repeat' first
    | with_reducible exact hs | with_reducible apply h.pacing
    | with_reducible apply stable_pacingEvent h | split | extract_lets

theorem stable_startInHalted (h : Stable P) (hs : P s) :
    P (startInHalted s) := by
  unfold startInHalted
  repeat' first
    | with_reducible exact hs | with_reducible apply h.pacing

theorem stable_silence (h : Stable P) (hs : P s) :
    P (silence s) := by
  unfold silence
  repeat' first
    | with_reducible exact hs | with_reducible apply h.pacing
    | with_reducible apply stable_pacingEvent h

theorem stable_silenceFalls (h : Stable P) (hs : P s) :
    P (silenceFalls s) := by
  unfold silenceFalls
  repeat' first
    | with_reducible exact hs | with_reducible apply stable_silence h | split

theorem stable_missedBegin (h : Stable P) (hs : P s) :
    P (missedBegin s) := by
  unfold missedBegin
  repeat' first
    | with_reducible exact hs | with_reducible apply h.pacing
    | with_reducible apply stable_cycleBegin h

theorem stable_localFalls (h : Stable P) (hs : P s) :
    P (localFalls s) := by
  unfold localFalls
  repeat' first
    | with_reducible exact hs | with_reducible apply stable_bothSegments h
    | with_reducible apply stable_cycleBegin h | split

theorem stable_adopt (h : Stable P) (hs : P s) :
    P (adopt s) := by
  unfold adopt
  repeat' first
    | with_reducible exact hs | with_reducible apply h.port | with_reducible apply h.demand
    | with_reducible apply h.event | split | extract_lets

theorem stable_loseDemand (h : Stable P) (hs : P s) :
    P (loseDemand s) := by
  unfold loseDemand
  repeat' first
    | with_reducible exact hs | with_reducible apply h.demand | with_reducible apply h.event
    | with_reducible apply h.latch | split

theorem stable_ageDemand (h : Stable P) (hs : P s) :
    P (ageDemand s) := by
  unfold ageDemand
  repeat' first
    | with_reducible exact hs | with_reducible apply h.demand
    | with_reducible apply stable_loseDemand h

theorem stable_demandIntake (h : Stable P) (hs : P s) :
    P (demandIntake s) := by
  unfold demandIntake
  repeat' first
    | with_reducible exact hs | with_reducible apply stable_adopt h
    | with_reducible apply stable_ageDemand h | split

theorem stable_keepMode (h : Stable P) (hs : P s) :
    P (keepMode s) := by
  unfold keepMode
  repeat' first
    | with_reducible exact hs | with_reducible apply h.demand

theorem stable_demandStage (h : Stable P) (hs : P s) :
    P ((demandStage s).1) := by
  unfold demandStage
  repeat' first
    | with_reducible exact hs | with_reducible apply stable_demandIntake h
    | with_reducible apply stable_keepMode h

theorem stable_enterFaulted (h : Stable P) (i : Fin 4) (r : StationReason) (hs : P s) :
    P (enterFaulted i r s) := by
  unfold enterFaulted
  repeat' first
    | with_reducible exact hs | with_reducible apply h.event | with_reducible apply h.latch
    | with_reducible apply stable_setStation h | with_reducible apply stable_endDirect h


theorem stable_overspeedTest (h : Stable P) (i : Fin 4) (hs : P s) :
    P (overspeedTest i s) := by
  unfold overspeedTest
  repeat' first
    | with_reducible exact hs | with_reducible apply stable_setStation h
    | with_reducible apply stable_enterFaulted h | split | extract_lets

theorem stable_noSample (h : Stable P) (i : Fin 4) (hs : P s) :
    P (noSample i s) := by
  unfold noSample
  repeat' first
    | with_reducible exact hs | with_reducible apply stable_setStation h
    | with_reducible apply stable_enterFaulted h | with_reducible apply stable_overspeedTest h
    | split | extract_lets

theorem stable_adoptSample (h : Stable P) (i : Fin 4) (v : Int) (hs : P s) :
    P (adoptSample i v s) := by
  unfold adoptSample
  repeat' first
    | with_reducible exact hs | with_reducible apply h.event
    | with_reducible apply stable_setStation h | with_reducible apply stable_overspeedTest h
    | split

theorem stable_sample (h : Stable P) (i : Fin 4) (v : Int) (hs : P s) :
    P (sample i v s) := by
  unfold sample
  repeat' first
    | with_reducible exact hs | with_reducible apply stable_setStation h
    | with_reducible apply stable_noSample h | with_reducible apply stable_adoptSample h | split
    | extract_lets

theorem stable_intakeRecord (h : Stable P) (i : Fin 4) (m : Measure) (hs : P s) :
    P (intakeRecord i m s) := by
  unfold intakeRecord
  extract_lets v s1
  have h1 : P s1 := stable_setStation h _ _ hs
  clear_value v
  split
  · exact stable_enterFaulted h _ _ (stable_setStation h _ _ h1)
  · split
    · split
      · exact stable_sample h _ _ h1
      · exact stable_noSample h _ h1
    · exact stable_noSample h _ h1

theorem stable_intakeRunning (h : Stable P) (i : Fin 4) (hs : P s) :
    P (intakeRunning i s) := by
  unfold intakeRunning
  repeat' first
    | with_reducible exact hs | with_reducible apply stable_enterFaulted h
    | with_reducible apply stable_noSample h | with_reducible apply stable_intakeRecord h | split

theorem stable_intakeFaulted (h : Stable P) (i : Fin 4) (hs : P s) :
    P (intakeFaulted i s) := by
  unfold intakeFaulted
  repeat' first
    | with_reducible exact hs | with_reducible apply stable_setStation h | split

theorem stable_intakeStation (h : Stable P) (i : Fin 4) (hs : P s) :
    P (intakeStation s i) := by
  unfold intakeStation
  repeat' first
    | with_reducible exact hs | with_reducible apply stable_intakeRunning h
    | with_reducible apply stable_intakeFaulted h | split

theorem stable_stationIntake (h : Stable P) (hs : P s) :
    P (stationIntake s) := by
  unfold stationIntake
  repeat' first
    | with_reducible exact hs | with_reducible assumption
    | with_reducible apply stable_intakeStation h
    | (with_reducible apply foldl_invariant P; intros)

theorem stable_motionStage (h : Stable P) (hs : P s) :
    P (motionStage s) := by
  unfold motionStage
  repeat' first
    | with_reducible exact hs | with_reducible apply h.stations

theorem stable_updatePeak (h : Stable P) (hs : P s) :
    P (updatePeak s) := by
  unfold updatePeak
  repeat' first
    | with_reducible exact hs | with_reducible apply h.check

theorem stable_judgeCheck (h : Stable P) (hs : P s) :
    P (judgeCheck s) := by
  unfold judgeCheck
  repeat' first
    | with_reducible exact hs | with_reducible apply h.latch
    | with_reducible apply stable_endCheck h | split

theorem stable_probeStage (h : Stable P) (hs : P s) :
    P ((probeStage s).1) := by
  unfold probeStage
  repeat' first
    | with_reducible exact hs | with_reducible apply h.check
    | with_reducible apply stable_endCheck h | with_reducible apply stable_updatePeak h
    | with_reducible apply stable_judgeCheck h | split | extract_lets

theorem stable_countDirect (h : Stable P) (i : Fin 4) (hs : P s) :
    P (countDirect s i) := by
  unfold countDirect
  repeat' first
    | with_reducible exact hs | with_reducible apply stable_setDirect h
    | with_reducible apply stable_endDirect h | split | extract_lets

theorem stable_storeSetPoints (h : Stable P) (p : Four SetPoint) (hs : P s) :
    P (storeSetPoints p s) := by
  unfold storeSetPoints
  repeat' first
    | with_reducible exact hs | with_reducible apply h.stations | with_reducible apply h.setpoints

theorem stable_assembly (h : Stable P) (f : Four (Int × Int)) (p : Four Int) (hs : P s) :
    P (assembly f p s) := by
  unfold assembly
  repeat' first
    | with_reducible exact hs | with_reducible assumption
    | with_reducible apply stable_countDirect h | with_reducible apply stable_storeSetPoints h
    | (with_reducible apply foldl_invariant P; intros)

theorem stable_takeDemand (h : Stable P) (m : DriveMode) (v : Int) (n : Nat) (hs : P s) :
    P (takeDemand m v n s) := by
  unfold takeDemand
  repeat' first
    | with_reducible exact hs | with_reducible apply h.port

theorem stable_linkError (h : Stable P) (hs : P s) :
    P (linkError s) := by
  unfold linkError
  repeat' first
    | with_reducible exact hs | with_reducible apply h.port | with_reducible apply h.latch

theorem stable_receiver (h : Stable P) (x : RxState) (hs : P s) :
    P (receiver x s) := by
  unfold receiver
  repeat' first
    | with_reducible exact hs | with_reducible apply h.port

theorem stable_lineFallsIdle (h : Stable P) (hs : P s) :
    P (lineFallsIdle s) := by
  unfold lineFallsIdle
  repeat' first
    | with_reducible exact hs | with_reducible apply stable_linkError h
    | with_reducible apply stable_receiver h | split

theorem stable_transmitEnds (h : Stable P) (hs : P s) :
    P (transmitEnds s) := by
  unfold transmitEnds
  repeat' first
    | with_reducible exact hs | with_reducible apply h.port
    | with_reducible apply stable_sendOwed h | split

theorem stable_changeMode (h : Stable P) (m : Mode) (hs : P s) :
    P (changeMode m s) := by
  unfold changeMode
  repeat' first
    | with_reducible exact hs | with_reducible apply h.mgmt | with_reducible apply h.event

theorem stable_safeSetPoints (h : Stable P) (hs : P s) :
    P (safeSetPoints s) := by
  unfold safeSetPoints
  repeat' first
    | with_reducible exact hs | with_reducible apply h.stations | with_reducible apply h.setpoints

theorem stable_startDirect (h : Stable P) (i : Fin 4) (t : Int) (d : Nat) (hs : P s) :
    P (startDirect i t d s) := by
  unfold startDirect
  repeat' first
    | with_reducible exact hs | with_reducible apply h.event
    | with_reducible apply stable_setDirect h | with_reducible apply stable_endDirect h


theorem stable_retest (h : Stable P) (i : Fin 4) (hs : P s) :
    P (retest i s) := by
  unfold retest
  repeat' first
    | with_reducible exact hs | with_reducible apply stable_setStation h | split

theorem stable_setGroup (h : StableAll P) (g : Fin 2) (x : GroupRt) (hs : P s) :
    P (s.setGroup g x) := by
  unfold State.setGroup
  repeat' first
    | with_reducible exact hs | with_reducible apply h.groups

theorem stable_openGroup (h : StableAll P) (g : Fin 2) (r : GroupReason) (hs : P s) :
    P (openGroup g r s) := by
  unfold openGroup
  repeat' first
    | with_reducible exact hs | with_reducible apply stable_groupEvent h.toStable
    | with_reducible apply stable_setGroup h

theorem stable_breakGroup (h : StableAll P) (g : Fin 2) (r : GroupReason) (hs : P s) :
    P (breakGroup g r s) := by
  unfold breakGroup
  repeat' first
    | with_reducible exact hs | with_reducible apply h.latch
    | with_reducible apply stable_groupEvent h.toStable | with_reducible apply stable_setGroup h

theorem stable_memberTest (h : StableAll P) (g : Fin 2) (hs : P s) :
    P (memberTest g s) := by
  unfold memberTest
  repeat' first
    | with_reducible exact hs | with_reducible apply stable_breakGroup h | split

theorem stable_applyReferenceChange (h : StableAll P) (c : Bool) (g : Fin 2) (hs : P s) :
    P (applyReferenceChange c g s) := by
  unfold applyReferenceChange
  repeat' first
    | with_reducible exact hs | with_reducible apply stable_groupEvent h.toStable
    | with_reducible apply stable_setGroup h | split

theorem stable_referenceStage (h : StableAll P) (c : Bool) (g : Fin 2) (hs : P s) :
    P (referenceStage c g s) := by
  unfold referenceStage
  repeat' first
    | with_reducible exact hs | with_reducible apply stable_setGroup h
    | with_reducible apply stable_memberTest h
    | with_reducible apply stable_applyReferenceChange h | split | extract_lets

theorem stable_carryVerdict (h : StableAll P) (g : Fin 2) (x : GroupRt) (v : LockVerdict) (hs : P s) :
    P (carryVerdict g x v s) := by
  unfold carryVerdict
  repeat' first
    | with_reducible exact hs | with_reducible apply stable_groupEvent h.toStable
    | with_reducible apply stable_setGroup h | with_reducible apply stable_breakGroup h | split

theorem stable_lockStage (h : StableAll P) (g : Fin 2) (hs : P s) :
    P (lockStage g s) := by
  unfold lockStage
  repeat' first
    | with_reducible exact hs | with_reducible apply stable_setGroup h
    | with_reducible apply stable_carryVerdict h | split | extract_lets

theorem stable_configGroup (h : StableAll P) (g : Fin 2) (hs : P s) :
    P (configGroup g s) := by
  unfold configGroup
  repeat' first
    | with_reducible exact hs | with_reducible apply stable_groupEvent h.toStable
    | with_reducible apply stable_setGroup h | split

theorem stable_haltGroup (h : StableAll P) (g : Fin 2) (hs : P s) :
    P (haltGroup g s) := by
  unfold haltGroup
  repeat' first
    | with_reducible exact hs | with_reducible apply stable_openGroup h | split

theorem stable_enterHalted (h : StableAll P) (r : HaltReason) (c : Bool) (hs : P s) :
    P (enterHalted r c s) := by
  unfold enterHalted
  repeat' first
    | with_reducible exact hs | with_reducible apply stable_endDirects h.toStable
    | with_reducible apply stable_abortCheck h.toStable
    | with_reducible apply stable_bothSegments h.toStable
    | with_reducible apply stable_becomeHalted h.toStable
    | with_reducible apply stable_haltGroup h

theorem stable_carryCycle (h : StableAll P) {change : State → State}
    (hc : ∀ s, P s → P (change s)) (hs : P s) : P (carryCycle change s) := by
  unfold carryCycle
  split
  · exact stable_enterHalted h _ _ hs
  · exact stable_bothSegments h.toStable _ _ (hc _ hs)

theorem stable_startInConfirm (h : StableAll P) (i : BitVec 6) (hs : P s) :
    P (startInConfirm i s) := by
  unfold startInConfirm
  split
  · split
    · exact h.pacing _ _ (stable_anchorOn h.toStable _ hs)
    · exact stable_carryCycle h (fun _ => stable_confirmed h.toStable)
        (stable_cycleBegin h.toStable _ _ hs)
  · exact stable_pacingEvent h.toStable _ (h.pacing _ _ (stable_anchorOn h.toStable _ hs))

theorem stable_startInTracking (h : StableAll P) (i : BitVec 6) (hs : P s) :
    P (startInTracking i s) := by
  unfold startInTracking
  split
  · exact stable_earlyStart h.toStable hs
  · split
    · exact stable_carryCycle h (fun _ hs => hs) (stable_startCycle h.toStable _ hs)
    · exact hs

theorem stable_startInFreewheel (h : StableAll P) (i : BitVec 6) (hs : P s) :
    P (startInFreewheel i s) := by
  unfold startInFreewheel
  split
  · exact stable_earlyStart h.toStable hs
  · exact stable_carryCycle h (fun _ => stable_countGoodRun h.toStable _)
      (stable_startCycle h.toStable _ hs)

theorem stable_acceptStart (h : StableAll P) (i : BitVec 6) (hs : P s) :
    P (acceptStart i s) := by
  unfold acceptStart
  repeat' first
    | with_reducible exact hs | with_reducible apply stable_startInListen h.toStable
    | with_reducible apply stable_startInAcquire h.toStable
    | with_reducible apply stable_startInHalted h.toStable
    | with_reducible apply stable_startInConfirm h | with_reducible apply stable_startInTracking h
    | with_reducible apply stable_startInFreewheel h | split

theorem stable_missedFromTracking (h : StableAll P) (hs : P s) :
    P (missedFromTracking s) := by
  unfold missedFromTracking
  repeat' first
    | with_reducible exact hs | with_reducible apply h.pacing
    | with_reducible apply stable_bothSegments h.toStable
    | with_reducible apply stable_pacingEvent h.toStable
    | with_reducible apply stable_enterHalted h | split

theorem stable_missedInFreewheel (h : StableAll P) (hs : P s) :
    P (missedInFreewheel s) := by
  unfold missedInFreewheel
  repeat' first
    | with_reducible exact hs | with_reducible apply h.pacing
    | with_reducible apply stable_bothSegments h.toStable
    | with_reducible apply stable_enterHalted h | split | extract_lets

theorem stable_missedFalls (h : StableAll P) (hs : P s) :
    P (missedFalls s) := by
  unfold missedFalls
  repeat' first
    | with_reducible exact hs | with_reducible apply stable_missedBegin h.toStable
    | with_reducible apply stable_enterHalted h | with_reducible apply stable_missedFromTracking h
    | with_reducible apply stable_missedInFreewheel h | split

theorem stable_measureStages (h : StableAll P) (hs : P s) :
    P (measureStages s) := by
  unfold measureStages
  repeat' first
    | with_reducible exact hs | with_reducible apply stable_demandStage h.toStable
    | with_reducible apply stable_stationIntake h.toStable
    | with_reducible apply stable_motionStage h.toStable
    | with_reducible apply stable_assembly h.toStable
    | with_reducible apply stable_referenceStage h

theorem stable_driveStages (h : StableAll P) (hs : P s) :
    P (driveStages s) := by
  unfold driveStages
  repeat' first
    | with_reducible exact hs | with_reducible apply stable_probeStage h.toStable
    | with_reducible apply stable_assembly h.toStable | with_reducible apply stable_lockStage h


theorem stable_computePoint (h : StableAll P) (hs : P s) :
    P (computePoint s) := by
  unfold computePoint
  repeat' first
    | with_reducible exact hs | with_reducible apply h.pacing
    | with_reducible apply stable_perCycleUplink h.toStable
    | with_reducible apply stable_measureStages h | with_reducible apply stable_driveStages h

theorem stable_computationFalls (h : StableAll P) (hs : P s) :
    P (computationFalls s) := by
  unfold computationFalls
  repeat' first
    | with_reducible exact hs | with_reducible apply stable_computePoint h | split

theorem stable_releaseGroup (h : StableAll P) (g : Fin 2) (hs : P s) :
    P (releaseGroup g s) := by
  unfold releaseGroup
  repeat' first
    | with_reducible exact hs | with_reducible apply stable_abortCheck h.toStable
    | with_reducible apply stable_openGroup h | split

theorem stable_haltRequest (h : StableAll P) (hs : P s) :
    P ((haltRequest s).1) := by
  unfold haltRequest
  repeat' first
    | with_reducible exact hs | with_reducible apply h.pacing | split

theorem stable_stopRequest (h : StableAll P) (hs : P s) :
    P ((stopRequest s).1) := by
  unfold stopRequest
  repeat' first
    | with_reducible exact hs | with_reducible apply h.pacing
    | with_reducible apply stable_enterHalted h | split

theorem stable_enterOperate (h : StableAll P) (hs : P s) :
    P ((enterOperate s).1) := by
  unfold enterOperate
  repeat' first
    | with_reducible exact hs | with_reducible apply stable_changeMode h.toStable | split

theorem stable_enterConfig (h : StableAll P) (hs : P s) :
    P ((enterConfig s).1) := by
  unfold enterConfig
  repeat' first
    | with_reducible exact hs | with_reducible apply stable_changeMode h.toStable
    | with_reducible apply stable_safeSetPoints h.toStable
    | with_reducible apply stable_configGroup h | split

theorem stable_engage (h : StableAll P) (args : List Byte) (hs : P s) :
    P ((engage args s).1) := by
  unfold engage
  repeat' first
    | with_reducible exact hs | with_reducible apply stable_groupEvent h.toStable
    | with_reducible apply stable_setGroup h | split | extract_lets

theorem stable_release (h : StableAll P) (args : List Byte) (hs : P s) :
    P ((release args s).1) := by
  unfold release
  repeat' first
    | with_reducible exact hs | with_reducible apply stable_releaseGroup h | split | extract_lets

theorem stable_startCheck (h : StableAll P) (args : List Byte) (hs : P s) :
    P ((startCheck args s).1) := by
  unfold startCheck
  repeat' first
    | with_reducible exact hs | with_reducible apply h.check | split | extract_lets

theorem stable_abortRequest (h : StableAll P) (hs : P s) :
    P ((abortRequest s).1) := by
  unfold abortRequest
  repeat' first
    | with_reducible exact hs | with_reducible apply stable_abortCheck h.toStable | split

theorem stable_directTorque (h : StableAll P) (args : List Byte) (hs : P s) :
    P ((directTorque args s).1) := by
  unfold directTorque
  repeat' first
    | with_reducible exact hs | with_reducible apply stable_endDirect h.toStable
    | with_reducible apply stable_startDirect h.toStable | split | extract_lets

end Sys2Proof.Machine
end

