-- ==== Sys2Proof/Laws/Commands.lean ====
section
/-! SUPPORT. What a whole command keeps: the operations left to Laws/Stable.lean's list, the requests, and
`exec`. -/

namespace Sys2Proof.Machine

/-- A property that every update of the part keeps, but for the moving of the clock. -/
structure StableExec (P : State → Prop) : Prop extends StableAll P where
  store : ∀ s x, P s → P (s.setStore x)
  report : ∀ s x, P s → P (s.setReport x)
  restarted : ∀ s, P s → P (restartMachines s)
  hard : ∀ s, P s → P (hardReset s)

variable {P : State → Prop} {s : State}

theorem stable_takeRequest (h : Stable P) (code tag : Byte) (body : Request)
    (hb : P (body s).1) (hs : P s) : P (takeRequest code tag body s) := by
  unfold takeRequest
  split
  · exact stable_dropRequest h hs
  · exact stable_placeReply h _ hb

theorem stable_noArgs (body : Request) (args : List Byte) (hb : P (body s).1) (hs : P s) :
    P (noArgs body args s).1 := by
  unfold noArgs
  split
  · exact hb
  · exact hs

theorem stable_checkedLoad (checks : List (Nat × Bool)) (apply : State → State) (ha : P (apply s))
    (hs : P s) : P (checkedLoad checks apply s).1 := by
  unfold checkedLoad
  split
  · exact hs
  · exact ha

theorem stable_inConfig (body : Request) (hb : P (body s).1) (hs : P s) :
    P (inConfig body s).1 := by
  unfold inConfig
  split
  · exact hs
  · exact hb

theorem stable_loadCell (h : StableExec P) (args : List Byte) (hs : P s) : P (loadCell args s).1 := by
  unfold loadCell
  split
  · exact stable_inConfig _ (stable_checkedLoad _ _ (h.store _ _ hs) hs) hs
  · exact hs

theorem stable_loadRoadload (h : StableExec P) (args : List Byte) (hs : P s) :
    P (loadRoadload args s).1 := by
  unfold loadRoadload
  split
  · exact hs
  · extract_lets n
    split
    · exact hs
    · exact stable_inConfig _ (stable_checkedLoad _ _ (h.store _ _ hs) hs) hs

theorem stable_loadStation (h : StableExec P) (args : List Byte) (hs : P s) :
    P (loadStation args s).1 := by
  unfold loadStation
  split
  · refine stable_inConfig _ (stable_checkedLoad _ _ ?_ hs) hs
    split
    · exact stable_setStation h.toStable _ _ (h.store _ _ hs)
    · exact stable_setStation h.toStable _ _ (h.store _ _ hs)
  · exact hs

theorem stable_loadGroup (h : StableExec P) (args : List Byte) (hs : P s) :
    P (loadGroup args s).1 := by
  unfold loadGroup
  split
  · exact stable_inConfig _
      (stable_checkedLoad _ _ (stable_setGroup h.toStableAll _ _ (h.store _ _ hs)) hs) hs
  · exact hs

theorem stable_loadSlot (h : StableExec P) (args : List Byte) (hs : P s) :
    P (loadSlot args s).1 := by
  unfold loadSlot
  split
  · refine stable_inConfig _ ?_ hs
    split
    · exact hs
    · extract_lets g
      split
      · exact hs
      · exact stable_checkedLoad _ _ (stable_setSlot h.toStable _ _ _ (h.store _ _ hs)) hs
  · exact hs

theorem stable_loadSchedule (h : StableExec P) (args : List Byte) (hs : P s) :
    P (loadSchedule args s).1 := by
  unfold loadSchedule
  split
  · exact stable_checkedLoad _ _ (h.store _ _ hs) hs
  · exact hs

theorem readTable_state (args : List Byte) (s : State) : (readTable args s).1 = s := by
  unfold readTable
  split <;> rfl

theorem readRuntime_state (args : List Byte) (s : State) : (readRuntime args s).1 = s := by
  unfold readRuntime
  split <;> rfl

theorem readCheck_state (s : State) : (readCheck s).1 = s := rfl

theorem unknownRequest_state (s : State) : (unknownRequest s).1 = s := rfl

theorem stable_readEvents (h : StableExec P) (hs : P s) : P (readEvents s).1 := h.report _ _ hs

theorem stable_restart (h : StableExec P) (hs : P s) : P (restart s).1 :=
  h.restarted _ (h.event _ _ (stable_abortCheck h.toStable _ (stable_endDirects h.toStable _ hs)))

theorem stable_clearFlag (h : StableExec P) (mask : BitVec 18) (f : Flag) (hs : P s) :
    P (clearFlag mask s f) := by
  unfold clearFlag
  split
  · have ht : P (treatFlag f s) := by
      unfold treatFlag
      split
      · exact h.report _ _ hs
      · exact stable_clearJam h.toStable _ hs
      · exact stable_retest h.toStable _ hs
      all_goals exact hs
    dsimp only
    split
    · exact ht
    · exact h.report _ _ ht
  · exact hs

theorem stable_clearFaults (h : StableExec P) (args : List Byte) (hs : P s) :
    P (clearFaults args s).1 := by
  unfold clearFaults
  split
  · split
    · exact hs
    · exact foldl_invariant P _ (fun _ _ hb => stable_clearFlag h _ _ hb) _ _ hs
  · exact hs

theorem requestBody_cases {Q : Request → Prop} (code : Byte) (args : List Byte)
    (h1 : Q (loadCell args)) (h2 : Q (loadRoadload args)) (h3 : Q (loadStation args))
    (h4 : Q (loadGroup args)) (h5 : Q (loadSlot args)) (h6 : Q (loadSchedule args))
    (h7 : Q (readTable args)) (h8 : Q (readRuntime args)) (h9 : Q (noArgs readEvents args))
    (h10 : Q (noArgs readCheck args)) (h11 : Q (noArgs enterOperate args))
    (h12 : Q (noArgs enterConfig args)) (h13 : Q (noArgs restart args))
    (h14 : Q (noArgs haltRequest args)) (h15 : Q (noArgs stopRequest args)) (h16 : Q (engage args))
    (h17 : Q (release args)) (h18 : Q (startCheck args)) (h19 : Q (noArgs abortRequest args))
    (h20 : Q (directTorque args)) (h21 : Q (clearFaults args)) (h22 : Q unknownRequest) :
    Q (requestBody code args) := by
  unfold requestBody
  split <;> assumption

theorem stable_requestBody (h : StableExec P) (code : Byte) (args : List Byte) (hs : P s) :
    P (requestBody code args s).1 :=
  requestBody_cases (Q := fun body => P (body s).1) code args
    (stable_loadCell h args hs) (stable_loadRoadload h args hs) (stable_loadStation h args hs)
    (stable_loadGroup h args hs) (stable_loadSlot h args hs) (stable_loadSchedule h args hs)
    ((readTable_state args s).symm ▸ hs) ((readRuntime_state args s).symm ▸ hs)
    (stable_noArgs _ args (stable_readEvents h hs) hs) (stable_noArgs _ args hs hs)
    (stable_noArgs _ args (stable_enterOperate h.toStableAll hs) hs)
    (stable_noArgs _ args (stable_enterConfig h.toStableAll hs) hs)
    (stable_noArgs _ args (stable_restart h hs) hs)
    (stable_noArgs _ args (stable_haltRequest h.toStableAll hs) hs)
    (stable_noArgs _ args (stable_stopRequest h.toStableAll hs) hs)
    (stable_engage h.toStableAll args hs) (stable_release h.toStableAll args hs)
    (stable_startCheck h.toStableAll args hs)
    (stable_noArgs _ args (stable_abortRequest h.toStableAll hs) hs)
    (stable_directTorque h.toStableAll args hs) (stable_clearFaults h args hs) hs

theorem stable_takeFrame (h : StableExec P) (f : Frame) (hs : P s) : P (takeFrame f s) := by
  unfold takeFrame
  split
  · exact stable_acceptStart h.toStableAll _ hs
  · exact stable_takeDemand h.toStable _ _ _ hs
  · exact stable_takeRequest h.toStable _ _ _ (stable_requestBody h _ _ hs) hs
  · exact stable_linkError h.toStable hs

theorem stable_receiveByte (h : StableExec P) (b : Byte) (hs : P s) : P (receiveByte b s) := by
  have hp : ∀ x, P (s.setPort x) := fun x => h.port _ x hs
  unfold receiveByte frameByte
  dsimp only
  split
  · exact hp _
  · exact hp _
  · exact stable_receiver h.toStable _ (hp _)
  · split
    · exact stable_receiver h.toStable _ (hp _)
    · split
      · exact stable_takeFrame h _ (stable_frameArrived h.toStable (hp _))
      · exact h.port _ _ (hp _)

/-- The command of a request takes its code's body. -/
theorem exec_request (c : Instr) (code tag : Byte) (args : List Byte) (hw : c.wf = true)
    (hc : c.request? = some (code, tag, args)) :
    exec c s = .next (takeRequest code tag (requestBody code args) (arrive c.time s)) := by
  cases c with
  | unknown t code' tag' args' =>
    simp only [Instr.request?, Option.some.injEq, Prod.mk.injEq] at hc
    obtain ⟨rfl, rfl, rfl⟩ := hc
    have hb : requestBody code' args' = unknownRequest := by
      have hm : ¬ code' ∈ requestCodes := by
        simp only [Instr.wf, Bool.and_eq_true, Bool.not_eq_true', List.contains_eq_mem,
          decide_eq_false_iff_not] at hw
        exact hw.1
      unfold requestBody
      split <;> first
        | rfl
        | (rename_i hn
           have he : code' = BitVec.ofNat 8 code'.toNat := by simp
           rw [hn] at he
           exact absurd (by rw [he]; decide) hm)
    rw [hb]; rfl
  | _ =>
    first
      | (simp only [Instr.request?, Option.some.injEq, Prod.mk.injEq] at hc
         obtain ⟨rfl, rfl, rfl⟩ := hc
         rfl)
      | exact absurd hc (by simp [Instr.request?])

/-- Every command has a next state, and keeps what each of its updates keeps. -/
theorem exec_keeps (h : StableExec P) (c : Instr) (hs : P (advance c.time s)) :
    ∃ t, exec c s = .next t ∧ P t := by
  have ha : P (arrive c.time s) := stable_frameArrived h.toStable hs
  cases c <;> refine ⟨_, rfl, ?_⟩
  case hardReset => exact h.hard _ hs
  case start => exact stable_acceptStart h.toStableAll _ ha
  case demand => exact stable_takeDemand h.toStable _ _ _ ha
  case linkCheckDiscard => exact stable_linkError h.toStable ha
  case lineIdle => exact stable_lineFallsIdle h.toStable hs
  case requestDropped =>
    split
    · exact stable_dropRequest h.toStable ha
    · exact ha
  case unknown => exact stable_takeRequest h.toStable _ _ _ ha ha
  case loadCell => exact stable_takeRequest h.toStable _ _ _ (stable_loadCell h _ ha) ha
  case loadStation => exact stable_takeRequest h.toStable _ _ _ (stable_loadStation h _ ha) ha
  case loadRoadload => exact stable_takeRequest h.toStable _ _ _ (stable_loadRoadload h _ ha) ha
  case loadGroup => exact stable_takeRequest h.toStable _ _ _ (stable_loadGroup h _ ha) ha
  case loadSlot => exact stable_takeRequest h.toStable _ _ _ (stable_loadSlot h _ ha) ha
  case loadSchedule => exact stable_takeRequest h.toStable _ _ _ (stable_loadSchedule h _ ha) ha
  case readTable =>
    exact stable_takeRequest h.toStable _ _ _ ((readTable_state _ _).symm ▸ ha) ha
  case readRuntime =>
    exact stable_takeRequest h.toStable _ _ _ ((readRuntime_state _ _).symm ▸ ha) ha
  case readEvents =>
    exact stable_takeRequest h.toStable _ _ _ (stable_noArgs _ _ (stable_readEvents h ha) ha) ha
  case readCheck => exact stable_takeRequest h.toStable _ _ _ (stable_noArgs _ _ ha ha) ha
  case enterOperate =>
    exact stable_takeRequest h.toStable _ _ _
      (stable_noArgs _ _ (stable_enterOperate h.toStableAll ha) ha) ha
  case enterConfig =>
    exact stable_takeRequest h.toStable _ _ _
      (stable_noArgs _ _ (stable_enterConfig h.toStableAll ha) ha) ha
  case restart =>
    exact stable_takeRequest h.toStable _ _ _ (stable_noArgs _ _ (stable_restart h ha) ha) ha
  case halt =>
    exact stable_takeRequest h.toStable _ _ _
      (stable_noArgs _ _ (stable_haltRequest h.toStableAll ha) ha) ha
  case stop =>
    exact stable_takeRequest h.toStable _ _ _
      (stable_noArgs _ _ (stable_stopRequest h.toStableAll ha) ha) ha
  case engage => exact stable_takeRequest h.toStable _ _ _ (stable_engage h.toStableAll _ ha) ha
  case release => exact stable_takeRequest h.toStable _ _ _ (stable_release h.toStableAll _ ha) ha
  case startCheck =>
    exact stable_takeRequest h.toStable _ _ _ (stable_startCheck h.toStableAll _ ha) ha
  case abortCheck =>
    exact stable_takeRequest h.toStable _ _ _
      (stable_noArgs _ _ (stable_abortRequest h.toStableAll ha) ha) ha
  case directTorque =>
    exact stable_takeRequest h.toStable _ _ _ (stable_directTorque h.toStableAll _ ha) ha
  case clearFaults => exact stable_takeRequest h.toStable _ _ _ (stable_clearFaults h _ ha) ha
  case silence => exact stable_silenceFalls h.toStable hs
  case missedCycle => exact stable_missedFalls h.toStableAll hs
  case localCycleBegin => exact stable_localFalls h.toStable hs
  case computationPoint => exact stable_computationFalls h.toStableAll hs
  case syncDue => exact stable_syncFallsDue h.toStable _ hs
  case windowOpen => exact stable_windowOpens h.toStable _ _ hs
  case windowClose => exact stable_windowCloses h.toStable _ _ hs
  case replyStart => exact stable_replyStarts h.toStable _ hs
  case replyComplete => exact stable_replyEnds h.toStable _ _ hs
  case transmitDone => exact stable_transmitEnds h.toStable hs
  case cellLinkByteReceived => exact stable_receiveByte h _ hs

end Sys2Proof.Machine
end

