-- ==== Sys2Proof/Laws/Fields.lean ====
section
/-! SUPPORT. What the operand forms give: fields written and read back, rounding, clamps. -/

namespace Sys2Proof.Machine

@[simp] theorem beBytes_length (w n : Nat) : (beBytes w n).length = w := by
  induction w with
  | zero => rfl
  | succ w ih => simp [beBytes, ih]

theorem beNat_foldl (acc : Nat) (bytes : List Byte) :
    bytes.foldl (fun acc b => acc * 256 + b.toNat) acc = acc * 256 ^ bytes.length + beNat bytes := by
  unfold beNat
  induction bytes generalizing acc with
  | nil => simp
  | cons b rest ih =>
    simp only [List.foldl_cons, List.length_cons]
    rw [ih, ih (0 * 256 + b.toNat), pow_succ]
    ring

theorem beNat_cons (b : Byte) (rest : List Byte) :
    beNat (b :: rest) = b.toNat * 256 ^ rest.length + beNat rest := by
  have h := beNat_foldl b.toNat rest
  simpa [beNat] using h

/-- A field written in `w` bytes reads back as its value in `w` bytes. -/
@[simp] theorem beNat_beBytes (w n : Nat) : beNat (beBytes w n) = n % 256 ^ w := by
  induction w with
  | zero => simp [beBytes, beNat, Nat.mod_one]
  | succ w ih =>
    rw [beBytes, beNat_cons, beBytes_length, ih, BitVec.toNat_ofNat]
    rw [show (256 : Nat) ^ (w + 1) = 256 ^ w * 256 by rw [pow_succ]]
    rw [show (2 : Nat) ^ 8 = 256 by norm_num, Nat.mod_mul, Nat.mul_comm]
    omega

/-- The first field of written fields reads back, and the rest are split as before. -/
theorem splitFields_beBytes (w : Nat) (ws : List Nat) (n : Nat) (rest : List Byte) :
    splitFields (w :: ws) (beBytes w n ++ rest) = (splitFields ws rest).map (n % 256 ^ w :: ·) := by
  simp only [splitFields]
  rw [if_neg (by simp), List.take_left' (beBytes_length w n), List.drop_left' (beBytes_length w n),
    beNat_beBytes]

/-- The fields of a request are read exactly when the byte count is the sum of their widths. -/
theorem splitFields_isSome (ws : List Nat) (bytes : List Byte) :
    (splitFields ws bytes).isSome = decide (bytes.length = ws.sum) := by
  induction ws generalizing bytes with
  | nil => cases bytes <;> simp [splitFields]
  | cons w ws ih =>
    have hs : (w :: ws).sum = w + ws.sum := by simp
    simp only [splitFields]
    split
    · exact (decide_eq_false (by omega)).symm
    · rw [Option.isSome_map, ih, List.length_drop]
      exact decide_eq_decide.mpr (by omega)

theorem splitFields_length (ws : List Nat) (bytes : List Byte) (ns : List Nat)
    (h : splitFields ws bytes = some ns) : ns.length = ws.length := by
  induction ws generalizing bytes ns with
  | nil =>
    cases bytes with
    | nil => simp only [splitFields, Option.some.injEq] at h; subst h; rfl
    | cons b r => simp [splitFields] at h
  | cons w ws ih =>
    simp only [splitFields] at h
    split at h
    · simp at h
    · simp only [Option.map_eq_some_iff] at h
      obtain ⟨m, hm, rfl⟩ := h
      simp [ih _ _ hm]

/-- A signed value written in `w` bytes reads back where it fits them. -/
theorem signedField_beInt (w : Nat) (z : Int)
    (hlo : -((256 ^ w : Nat) : Int) ≤ 2 * z) (hhi : 2 * z < ((256 ^ w : Nat) : Int)) :
    signedField w (beNat (beInt w z)) = z := by
  have hm : (0 : Int) < ((256 ^ w : Nat) : Int) := by positivity
  unfold beInt signedField
  rw [beNat_beBytes]
  have h0 := Int.emod_nonneg z hm.ne'
  have h1 := Int.emod_lt_of_pos z hm
  rw [Nat.mod_eq_of_lt (by omega)]
  have h2 : ((z % ((256 ^ w : Nat) : Int)).toNat : Int) = z % ((256 ^ w : Nat) : Int) :=
    Int.toNat_of_nonneg h0
  rcases lt_or_ge z 0 with hz | hz
  · have : z % ((256 ^ w : Nat) : Int) = z + ((256 ^ w : Nat) : Int) := by
      rw [← Int.add_emod_right, Int.emod_eq_of_lt (by omega) (by omega)]
    split <;> omega
  · have : z % ((256 ^ w : Nat) : Int) = z := Int.emod_eq_of_lt hz (by omega)
    split <;> omega

theorem clampAbs_bound (m : Nat) (z : Int) : (clampAbs m z).natAbs ≤ m := by
  unfold clampAbs clampTo
  omega

theorem clampAbs_of_le (m : Nat) (z : Int) (h : z.natAbs ≤ m) : clampAbs m z = z := by
  unfold clampAbs clampTo
  omega

theorem bump_le (cap n : Nat) : bump cap n ≤ cap := by
  unfold bump
  omega

end Sys2Proof.Machine
end

