-- ==== Sys2Proof/Laws/Ops.lean ====
section
/-! SUPPORT. What the shared operations do, each said once: the fault register's bits, a record written
into the queue, the ends of a DIRECT and of a check, the first check that fails. -/

namespace Sys2Proof.Machine

variable {s : State}

/-! ## The fault register (R190) -/

theorem flagBit_lt (f : Flag) : flagBit f < 18 := by
  cases f <;> simp only [flagBit] <;> omega

theorem flagBit_inj {f f' : Flag} (h : flagBit f = flagBit f') : f = f' := by
  cases f <;> cases f' <;> simp only [flagBit] at h <;> first
    | rfl
    | omega
    | (congr 1; omega)
    | (congr 1; apply (Seg.num_inj _ _).1; omega)

theorem flagMask_bit (f : Flag) (b : Nat) : (flagMask f).getLsbD b = decide (b = flagBit f) := by
  simp only [flagMask, BitVec.getLsbD_twoPow]
  have := flagBit_lt f
  by_cases h : b = flagBit f <;> simp [h, eq_comm]; omega

/-- Latching sets one bit and changes nothing else. -/
theorem latch_bit (f : Flag) (b : Nat) :
    (latch f s).report.faults.getLsbD b = (s.report.faults.getLsbD b || decide (b = flagBit f)) := by
  simp [latch, flagMask_bit]

theorem unlatch_bit (f : Flag) (b : Nat) :
    (unlatch f s).report.faults.getLsbD b
      = (s.report.faults.getLsbD b && decide (b < 18) && !decide (b = flagBit f)) := by
  simp [unlatch, flagMask_bit, Bool.and_assoc]

theorem isLatched_latch (f f' : Flag) :
    isLatched f' (latch f s) = (isLatched f' s || decide (f' = f)) := by
  rw [isLatched, latch_bit, isLatched]
  congr 1
  by_cases h : f' = f
  · simp [h]
  · simp [h, mt flagBit_inj h]

/-! ## The event queue (R193) -/

/-- The record a write appends. -/
theorem writeEvent_last (body : EventBody) :
    (writeEvent body s).report.queue.getLast? =
      some { sequence := s.report.nextSequence, serial := s.pacing.serial, body := body } := by
  simp only [writeEvent]
  split <;> simp [latch]

theorem writeEvent_length (body : EventBody) (h : s.report.queue.length ≤ 32) :
    (writeEvent body s).report.queue.length = min (s.report.queue.length + 1) 32 := by
  simp only [writeEvent]
  split
  · simp; omega
  · simp [latch]; omega

/-- A write touches no flag but EVENT_OVERRUN. -/
theorem writeEvent_flag (body : EventBody) (f : Flag) (h : f ≠ .eventOverrun) :
    isLatched f (writeEvent body s) = isLatched f s := by
  simp only [writeEvent]
  split
  · rfl
  · rw [isLatched_latch, decide_eq_false h, Bool.or_false]
    rfl

/-! ## The ends of a DIRECT and of a check (R83, R97) -/

theorem endDirect_of_inactive (cause : EndCause) (i : Fin 4) (h : (s.direct i).active = false) :
    endDirect cause i s = s := by
  simp [endDirect, h]

theorem abortCheck_of_idle (reason : CheckReason) (h : s.check.running = false) :
    abortCheck reason s = s := by
  simp [abortCheck, h]

/-- An aborted check's context is IDLE, its last-check record whole. -/
theorem abortCheck_of_running (reason : CheckReason) (h : s.check.running = true) :
    (abortCheck reason s).check = { s.check with running := false } ∧
      (abortCheck reason s).lastCheck = lastCheckOf s.check .aborted reason := by
  simp only [abortCheck, h, if_true, endCheck, writeEvent]
  split <;> exact ⟨rfl, rfl⟩

/-! ## Checks in order (R171) -/

theorem firstFailing_none {checks : List (Nat × Bool)} :
    firstFailing checks = none ↔ ∀ c ∈ checks, c.2 = true := by
  induction checks with
  | nil => simp [firstFailing]
  | cons c rest ih =>
    obtain ⟨n, ok⟩ := c
    cases ok <;> simp [firstFailing, ih]

theorem firstFailing_some {checks : List (Nat × Bool)} {n : Nat} :
    firstFailing checks = some n ↔
      ∃ before after, checks = before ++ (n, false) :: after ∧ ∀ c ∈ before, c.2 = true := by
  induction checks with
  | nil => simp [firstFailing]
  | cons c rest ih =>
    obtain ⟨m, ok⟩ := c
    cases ok
    · simp only [firstFailing, Bool.false_eq_true, if_false, Option.some.injEq]
      constructor
      · rintro rfl
        exact ⟨[], rest, rfl, by simp⟩
      · rintro ⟨before, after, h, hb⟩
        cases before with
        | nil => simpa using (Prod.mk.inj (List.cons.inj h).1).1
        | cons b bs =>
          have := hb b (by simp)
          rw [← (List.cons.inj h).1] at this
          cases this
    · simp only [firstFailing, if_true, ih]
      constructor
      · rintro ⟨before, after, rfl, hb⟩
        exact ⟨(m, true) :: before, after, rfl, by simpa using hb⟩
      · rintro ⟨before, after, h, hb⟩
        cases before with
        | nil => cases (Prod.mk.inj (List.cons.inj h).1).2
        | cons b bs =>
          exact ⟨bs, after, (List.cons.inj h).2, fun c hc => hb c (by simp [hc])⟩

/-- A load's outcome: the number of its first failing check, or its effect. -/
theorem checkedLoad_eq (checks : List (Nat × Bool)) (apply : State → State) (s : State) :
    (∃ n, firstFailing checks = some n ∧
        checkedLoad checks apply s = (s, refusedWith .badArgument n)) ∨
      ((∀ c ∈ checks, c.2 = true) ∧ checkedLoad checks apply s = (apply s, doneWith 0 [])) := by
  cases h : firstFailing checks with
  | some n => exact .inl ⟨n, rfl, by simp [checkedLoad, h]⟩
  | none => exact .inr ⟨firstFailing_none.1 h, by simp [checkedLoad, h]⟩

end Sys2Proof.Machine
end

