-- ==== Sys2Proof/Laws/Packed.lean ====
section
/-! SUPPORT. Fields packed into bytes: a list of them splits, and one of them is the model's field. -/

namespace Sys2Proof.Machine

@[simp] theorem packed_nil : packed [] = [] := rfl

theorem packed_cons (f : Nat × Int) (fs : List (Nat × Int)) : packed (f :: fs) = packed [f] ++ packed fs := by
  simp [packed]

@[simp] theorem packed_append (a b : List (Nat × Int)) : packed (a ++ b) = packed a ++ packed b := by
  simp [packed]

/-- A field one byte wider begins with its highest byte. -/
theorem packed_succ (w : Nat) (z : Int) :
    packed [(w + 1, z)] = BitVec.ofInt 8 (z / 256 ^ w) :: packed [(w, z)] := by
  simp only [packed, List.flatMap_cons, List.flatMap_nil, List.append_nil, List.range_succ_eq_map,
    List.map_cons, List.map_map, Nat.add_sub_cancel, Nat.sub_zero]
  congr 1
  refine List.map_congr_left fun j _ => ?_
  simp only [Function.comp, Nat.succ_eq_add_one, show w - (j + 1) = w - 1 - j by omega]

/-- A field of a count is the model's unsigned field. -/
theorem packed_nat (w n : Nat) : packed [(w, (n : Int))] = beBytes w n := by
  induction w with
  | zero => rfl
  | succ w ih =>
    rw [packed_succ, ih, beBytes]
    congr 1

/-- A field keeps the low bytes of a value only. -/
theorem packed_add_mul {w v : Nat} (h : w ≤ v) (z k : Int) :
    packed [(w, z + k * 256 ^ v)] = packed [(w, z)] := by
  induction w with
  | zero => rfl
  | succ w ih =>
    rw [packed_succ, packed_succ, ih (by omega)]
    congr 1
    have hv : (256 : Int) ^ v = 256 ^ w * (256 * 256 ^ (v - (w + 1))) := by
      rw [← pow_succ', ← pow_add]
      congr 1
      omega
    have hd : (z + k * 256 ^ v) / 256 ^ w = z / 256 ^ w + 256 * (k * 256 ^ (v - (w + 1))) := by
      rw [hv, show k * (256 ^ w * (256 * 256 ^ (v - (w + 1)))) =
        256 ^ w * (256 * (k * 256 ^ (v - (w + 1)))) by ring, Int.add_mul_ediv_left _ _ (by positivity)]
    rw [hd]
    apply BitVec.eq_of_toInt_eq
    simp only [BitVec.toInt_ofInt]
    exact Int.add_mul_bmod_self_left ..

/-- A field of a signed value is the model's field in two's complement. -/
theorem packed_int (w : Nat) (z : Int) : packed [(w, z)] = beInt w z := by
  have h := Int.emod_add_ediv_mul z (256 ^ w)
  have hp : (0 : Int) < 256 ^ w := by positivity
  rw [beInt, ← packed_nat, Int.toNat_of_nonneg (Int.emod_nonneg _ (by push_cast; omega))]
  conv_lhs => rw [← h]
  push_cast
  exact packed_add_mul le_rfl _ _

@[simp] theorem packed_length (fs : List (Nat × Int)) : (packed fs).length = (fs.map (·.1)).sum := by
  simp [packed, List.length_flatMap]

end Sys2Proof.Machine
end

