-- ==== Sys2Proof/Laws/Segments.lean ====
section
/-! SUPPORT. What the operations on a segment's line and windows answer: when the line is idle, the class of
a candidate, what a short pause within a reply does. -/

namespace Sys2Proof.Machine

variable {now : Nat} {x : Segment}

theorem lineRested_iff : lineRested now x = true ↔ ∀ t, x.lastEnd = some t → t + 100 ≤ now := by
  unfold lineRested
  cases x.lastEnd with
  | none => simp
  | some t => rw [decide_eq_true_eq]; simp [us]

/-- The line test of R131 and R150 is the idle line of R196. -/
theorem lineIdle_iff : lineIdle now x = true ↔ quiet now x := by
  simp [lineIdle, quiet, lineRested_iff]

theorem lineIdle_false_iff : lineIdle now x = false ↔ ¬ quiet now x := by
  rw [← lineIdle_iff, Bool.not_eq_true]

/-- R196: the form of a reply, as its checks read. -/
theorem replyFormGood_iff (chars : List Byte) : replyFormGood chars = true ↔
    chars.head? = some 0x5A ∧ chars.getLast? = some (crc8 chars.dropLast) ∧
      ((chars[2]? = some 0x01 ∧ chars.length = 12) ∨ (chars[2]? = some 0x02 ∧ chars.length = 9)) := by
  simp only [replyFormGood, charAt, Bool.and_eq_true, decide_eq_true_eq, and_assoc]
  refine and_congr_right fun _ => and_congr_right fun _ => ?_
  split <;> simp_all

/-- R136: the class of a window's candidate, by the checks in their order. -/
theorem classify_eq (state : SegState) (address page : Nat) (c : Candidate) :
    classify state address page c = replyClass state address page c := by
  cases c with
  | none | arriving => rfl
  | complete chars =>
    have hf := replyFormGood_iff chars
    have hk : kindGood state page chars = true ↔
        if state = .boot then chars[2]? = some 0x02 ∧ chars[3]? = some (BitVec.ofNat 8 page)
        else chars[2]? = some 0x01 := by
      cases state <;> simp only [kindGood, Bool.and_eq_true, decide_eq_true_eq] <;> rfl
    simp only [classify, replyClass]
    by_cases h : replyFormGood chars = true
    · rw [if_neg (by simp [h]), if_neg (not_not.2 (hf.1 h))]
      simp only [Bool.not_eq_true', ← Bool.not_eq_true, hk, charAt]
      cases state
      case boot => simp only [if_true]; split_ifs <;> simp_all
      all_goals simp
    · rw [if_pos (by simpa using h), if_pos (fun k => h (hf.2 k))]

theorem isSlotError_eq (c : SlotClass) : isSlotError c = countsError c := by
  cases c <;> rfl

/-- R196: a short pause within what is no candidate. -/
theorem resumeReply_none (h : x.replySlot = none) : resumeReply x = { x with lineBusy := true } := by
  simp [resumeReply, h]

/-- R196: a short pause within a candidate. -/
theorem resumeReply_some {k : Fin 4} {w : Window} {chars : List Byte} (h : x.replySlot = some k)
    (hw : (x.slots.get k).window = some w) (hc : w.candidate = .complete chars) :
    resumeReply x = { x with
      lineBusy := true,
      slots := x.slots.set k
        { x.slots.get k with window := some { w with candidate := .arriving chars } } } := by
  simp [resumeReply, resumeCandidate, h, hw, hc, Candidate.chars]

end Sys2Proof.Machine
end

