-- ==== Sys2Proof/Tests/Slice0.lean ====
section
/-! SUPPORT. Tests: ill-formed commands refused, the manual's worked examples, one step of each command,
and for each statement a state and operands that meet its hypotheses. -/

namespace Sys2Proof.Tests

open Sys2Proof Sys2Proof.Machine

/- One test after another: each asks the kernel, and a waiting test holds a thread. -/
set_option Elab.async false

/-! ## States to test on -/

/-- The state a command leaves. -/
def after (c : Instr) (s : State) : State :=
  match exec c s with
  | .next t => t
  | .fault _ | .refused _ => s

/-- The station of the example of 1.3. -/
def roller : StationRec :=
  { present := true, circumference := 1256637, radius := 200000, direction := .plus, share := 256,
    mechMass := 400, torqueLimit := 8000, slew := 500, overspeed := 70000000, overspeedDebounce := 2,
    maxStep := 500000, holdLimit := 3, accelWindow := 4, fallbackCounts := 4096,
    fallbackTorque := 12000, fallbackSpeed := 3000 }

/-- The group of the worked sequence of chapter 3, capture. -/
def pair : GroupRec :=
  { members := 0xC, kind := .mean, leader := 0, kp := 2000, ki := 100, integratorClamp := 50000,
    authority := 600, captureCycles := 4, captureConfirm := 2, captureTimeout := 10,
    captureBand := 3000, slipBand := 5000, breakBand := 40000, slipDebounce := 2, recoverCount := 2,
    breakCount := 3, driftLimit := 20000, accelLimit := 2000, accelWindow := 2 }

def slotAt (station : Fin 4) (address earliest close : Nat) : SlotRec :=
  { enabled := true, station := station, address := address, earliest := earliest, close := close }

/-- The road-load table of the examples of 2.4. -/
def road : RoadTable :=
  { rows := [⟨5000, 180⟩, ⟨10000, 220⟩, ⟨15000, 290⟩, ⟨20000, 390⟩, ⟨25000, 520⟩, ⟨30000, 680⟩],
    band := 300000 }

def store : Store :=
  { Store.reset with
    road := road, stations := ⟨roller, roller, roller, roller⟩, groups := ⟨GroupRec.reset, pair⟩,
    slots := ⟨⟨slotAt 0 1 100 220, slotAt 1 2 220 340, SlotRec.reset, SlotRec.reset⟩,
      ⟨slotAt 2 5 100 300, slotAt 3 6 300 600, SlotRec.reset, SlotRec.reset⟩⟩,
    schedule := { enabled := true, kind := .slot, operand := 1, position := 0, repetition := 1,
                  offset := 0 } :: List.replicate 15 SchedEntry.reset }

/-- The init values of the example of 1.3. -/
def booted : InitValues :=
  { identity := some ⟨0x1234, 5⟩, counts := some 4096, ratedTorque := some 12000,
    ratedSpeed := some 3000, mark := .none }

def live (speed : Int) : StationRt :=
  { StationRt.reset with
    state := .live, speed := some speed, status := some 0x01, init := booted, torqueLimit := 8000,
    overspeedLimit := 62831850 }

/-- The part in OPERATE and TRACKING, 100 µs into a cycle, both segments UP. -/
def run : State :=
  { State.reset with
    now := 52500, store := store, mgmt := { Mgmt.reset with mode := .operate },
    pacing := { Pacing.reset with
      state := .tracking, anchor := some 50000, serial := 7, index := 7, confirm := 3 },
    port := { Port.reset with rx := .ready },
    segs := ⟨{ Segment.reset with state := .up }, { Segment.reset with state := .up }⟩,
    stations := ⟨live 20000000, live 20000000, live 20006000, live 19994000⟩ }

/-- The same in CONFIG. -/
def config : State := { run with mgmt := Mgmt.reset }

def inState (p : PacingState) (s : State) : State := { s with pacing := { s.pacing with state := p } }

def withGroup (g : GroupState) (s : State) : State :=
  s.setGroup 1 { s.group 1 with state := g }

def withDirect (s : State) : State :=
  s.setDirect 2 { active := true, torque := 1500, remaining := 1, endCause := .none }

def receiving (rx : RxState) (burst : List Byte) (s : State) : State :=
  { s with port := { s.port with rx := rx, burst := burst } }

def full (s : State) : State :=
  { s with
    mgmt := { s.mgmt with
      holder := some { tag := 1, code := 2, answer := doneWith 0 [], serial := 7 } } }

/-- Field values by their numbers. -/
def values (l : List Nat) (j : Nat) : Nat := l.getD j 0

theorem sized_of {first : Nat} {widths : List Nat} {v : Nat → Nat}
    (h : (widths.zipIdx.all fun w => decide (v (first + w.2) < 256 ^ w.1)) = true) :
    argumentsSized first widths v := by
  intro j w hj
  have := List.all_eq_true.1 h (w, j) (List.mem_zipIdx_iff_getElem?.2 hj)
  simpa using this

theorem quiet_of {now : Nat} {x : Segment} (h : x.lineBusy = false) (h' : x.lastEnd = none) :
    quiet now x :=
  ⟨h, fun t e => by simp [h'] at e⟩

theorem no_window (g : Seg) (k : Fin 4) : (State.reset.slot g k).window = none := by
  cases g <;> revert k <;> decide

theorem none_due (c : Instr) : ¬ IsDue State.reset c := by
  intro h
  cases c with
  | windowClose t g k => obtain ⟨w, e, _⟩ := h; exact absurd (e.symm.trans (no_window g k)) (by simp)
  | windowOpen t g k => obtain ⟨w, e, _⟩ := h; exact absurd (e.symm.trans (no_window g k)) (by simp)
  | syncDue t g => obtain ⟨w, e, _⟩ := h; cases g <;> cases e
  | computationPoint t => obtain ⟨w, e, _⟩ := h; cases e
  | transmitDone t => exact absurd h.1 (by decide)
  | lineIdle t => exact absurd h.2 (by decide)
  | silence t => exact absurd h.1 (by decide)
  | missedCycle t => exact absurd h.1 (by decide)
  | localCycleBegin t => exact absurd h.1 (by decide)
  | _ => exact h

/-! ## Ill-formed commands -/

theorem test_wf_demand_speed_above : (Instr.demand 0 .speed 2147483648 1500).wf = false := by decide +kernel
theorem test_wf_demand_speed_below : (Instr.demand 0 .speed (-2147483649) 1500).wf = false := by decide +kernel
theorem test_wf_demand_mass : (Instr.demand 0 .road 0 65536).wf = false := by decide +kernel
theorem test_wf_demand_greatest : (Instr.demand 0 .road 2147483647 65535).wf = true := by decide +kernel
theorem test_wf_unknown_of_known_code : (Instr.unknown 0 0x30 1 []).wf = false := by decide +kernel
theorem test_wf_unknown : (Instr.unknown 0 0x77 1 []).wf = true := by decide +kernel
theorem test_wf_arguments_too_long :
    (Instr.loadCell 0 1 (List.replicate 199 0)).wf = false := by decide +kernel
theorem test_wf_reply_empty : (Instr.replyComplete 0 .a []).wf = false := by decide +kernel

/-! ## Frames and check sums (R157, R195, R196) -/

theorem test_crc16 : crc16 [0x31, 0x32, 0x33, 0x34, 0x35, 0x36, 0x37, 0x38, 0x39] = 0x29B1 := by
  decide +kernel
/-- The bytes of R195: kind, length, payload. -/
theorem test_demand_frame :
    (frameBytes (.demand 0 .speed (-2) 1500)).map (·.take 9) =
      some [0x02, 0x07, 0x02, 0xFF, 0xFF, 0xFF, 0xFE, 0x05, 0xDC] := by decide +kernel
theorem test_start_frame_read : judge (frameBody 0x01 [0x3F]) = .start 63 := by decide +kernel
theorem test_start_above_63_bad : judge (frameBody 0x01 [0x40]) = .bad := by decide +kernel
theorem test_uplink_kind_bad : judge (frameBody 0x81 [0x00]) = .bad := by decide +kernel
theorem test_no_word_spells_a_command : decodeTableWord 8 0x30 = none := rfl

/-! ## Worked examples -/

theorem test_round_half_away : roundDiv 5 2 = 3 ∧ roundDiv (-5) 2 = -3 := by decide +kernel
/-- 1.5, conversion. -/
theorem test_conversion :
    roundDiv (61440 * 1256637) 4096 = 18849555 ∧ roundDiv (-10000 * 2000003) 4096 = -4882820 ∧
      roundDiv (1 * 500002) 4 = 125001 ∧ roundDiv (-1 * 500002) 4 = -125001 := by decide +kernel
/-- 1.3, effective limits. -/
theorem test_limits :
    torqueLimitOf roller booted = 8000 ∧ overspeedLimitOf roller booted = 62831850 ∧
      overspeedLimitOf roller InitValues.clear = 70000000 := by decide +kernel
/-- 1.6, acceleration from a filling ring. -/
theorem test_acceleration :
    ringAccel [10000000, 10001000, 10002050] 3 250 = 0 ∧
      ringAccel [10000000, 10001000, 10002050, 10003100] 3 250 = 4133 ∧
      ringAccel [10000000, 10001000, 10002050, 10003100, 10004101] 3 250 = 4135 := by decide +kernel
/-- 2.4, vehicle force. -/
theorem test_vehicle_force :
    [250000, 300000, 300001, 5000000, 5062500, 7500000, 12345678, 15000000, 18849555, 30000000,
      45000000].map (vehicleForce road) =
    [0, 0, 180, 180, 181, 200, 253, 290, 367, 680, 680] := by decide +kernel
/-- 2.4, share rounding. -/
theorem test_share :
    roadLoadForce road 256 18849555 = 92 ∧ roadLoadForce road 256 (-18849555) = -92 ∧
      roadLoadForce road 384 18849555 = 138 ∧ roadLoadForce road 0 18849555 = 0 := by decide +kernel
/-- 2.5, inertia force. -/
theorem test_inertia :
    inertiaForce 1800 256 400 1500 = 75 ∧ inertiaForce 1800 256 400 30 = 2 ∧
      inertiaForce 1800 256 400 (-30) = -2 ∧ inertiaForce 1200 256 400 1500 = -150 := by decide +kernel
/-- 4.3, force to torque. -/
theorem test_torque :
    forceToTorque 167 200000 = 334 ∧ forceToTorque 1 150000 = 2 ∧ forceToTorque (-1) 150000 = -2 ∧
      forceToTorque 3 75000 = 2 ∧ forceToTorque 50000 955000 = 477500 := by decide +kernel
/-- 4.4, limit and slew: computation points 1 and 4. -/
theorem test_slew :
    drivenSetPoint 8000 500 7800 9400 .computed 1 = ⟨8000, .computed, true, false, 1⟩ ∧
      drivenSetPoint 8000 500 7500 (-9000) .computed 4 = ⟨7000, .computed, true, true, 4⟩ := by
  decide +kernel
/-- 3.4, conditional integration during capture, and an integrator that unwinds. -/
theorem test_windup :
    correct pair 1000 30 20000 0 = (0, 30) ∧ correct pair 1000 60 20000 0 = (20000, 42) ∧
      correct pair 1000 30 (-1000) 500000 = (499000, 30) := by decide +kernel
/-- 3.3, ramp steps. -/
theorem test_ramp_step :
    rampStep { pair with accelLimit := 1 } 250 = 1 ∧ rampStep { pair with accelLimit := 5 } 500 = 3 ∧
      ramp 2000 25000000 20012000 = 20014000 := by decide +kernel
/-- Chapter 3, capture: serial 1003, where the group locks. -/
theorem test_capture :
    let x : GroupRt := { GroupRt.reset with
      state := .capturing, c := 3, elapsed := 3, inBand := 1, reference := some 20006000,
      integrator := ⟨0, 0, 12500, -12500⟩ }
    let s := (run.setGroup 1 x).setStations ⟨live 0, live 0, live 20007000, live 20005000⟩
    let y := (lockStage 1 s).group 1
    y.state = .locked ∧ y.reason = .captured ∧ y.aEff = 600 ∧ y.maxError = 1000 ∧
      y.force = ⟨0, 0, 3, -3⟩ ∧ y.integrator = ⟨0, 0, 13500, -13500⟩ := by decide +kernel

/-! ## One step of each command -/

/-- The result, the detail and the data a request leaves in the holder. -/
def reply (s : State) : Option (ResultCode × Nat × List Byte) :=
  s.mgmt.holder.map fun r => (r.answer.result, r.answer.detail, r.answer.data)

theorem test_hardReset :
    (after (.hardReset 60000) (withGroup .broken run)).group 1 = GroupRt.reset ∧
      (after (.hardReset 60000) run).now = 60000 := by decide +kernel
/-- R111: the third good START of a stream. -/
theorem test_start_confirms :
    (after (.start 75000 8)
      { inState .confirm run with pacing := { (inState .confirm run).pacing with confirm := 2 } }
      ).pacing.state = .tracking := by decide +kernel
/-- R114: a START before anchor + P − tol. -/
theorem test_start_early :
    (after (.start 74499 8) run).pacing.early = 1 ∧
      (after (.start 74500 8) run).pacing.serial = 8 := by decide +kernel
theorem test_demand :
    (after (.demand 0 .road 90001 499) run).port.pendingDemand = ⟨.road, 90000, 500, true⟩ := by
  decide +kernel
theorem test_linkCheckDiscard :
    (after (.linkCheckDiscard 0) run).report.faults = 0x8 := by decide +kernel
theorem test_lineIdle :
    (after (.lineIdle 0) (receiving .inFrame [3] run)).port.linkErrors = 1 := by decide +kernel
theorem test_requestDropped : (after (.requestDropped 0) (full run)).mgmt.dropped = 1 := by
  decide +kernel
theorem test_unknown : reply (after (.unknown 0 0x77 9 [1]) run) = some (.unknown, 0, []) := by
  decide +kernel
theorem test_loadCell :
    (after (.loadCell 0 1 (cellBytes { CellRec.reset with period := 250, tol := 31 })) config
      ).store.cell.period = 250 ∧
      reply (after (.loadCell 0 1 (cellBytes { CellRec.reset with period := 250, tol := 32 })) config)
        = some (.badArgument, 2, []) := by decide +kernel
theorem test_loadStation :
    ((after (.loadStation 0 1 ([3, 0] ++ List.replicate 36 0xFF)) config).station 3).state = .absent :=
  by decide +kernel
/-- R31: of two rows out of order the later is the bad one. -/
theorem test_loadRoadload :
    reply (after (.loadRoadload 0 1 ([2, 0, 0, 9, 0, 1, 0, 0, 9, 0, 1] ++ [0, 0, 0])) config) =
      some (.badArgument, 2, []) := by decide +kernel
theorem test_loadGroup :
    reply (after (.loadGroup 0 1 ([0] ++ groupRecBytes { pair with slipBand := 2999 })) config) =
      some (.badArgument, 1, []) ∧
    reply (after (.loadGroup 0 1 ([1] ++ groupRecBytes { pair with slipBand := 2999 })) config) =
      some (.badArgument, 12, []) := by decide +kernel
theorem test_loadSlot :
    reply (after (.loadSlot 0 1 ([0, 3] ++ slotRecBytes (slotAt 3 7 400 500))) config) =
      some (.wrongState, 19, []) := by decide +kernel
theorem test_loadSchedule :
    (after (.loadSchedule 0 1 [15, 1, 1, 3, 5, 64, 63]) run).store.schedule[15]? =
      some ⟨true, .stationMotion, 3, 5, 64, 63⟩ := by decide +kernel
theorem test_readTable :
    reply (after (.readTable 0 1 [4, 1]) run) =
      some (.done, 0, [1, 1, 2, 0x00, 0xDC, 0x01, 0x54]) := by decide +kernel
theorem test_readRuntime :
    reply (after (.readRuntime 0 1 [3, 0]) run) =
      some (.done, 0, [0, 0, 0, 0, 0, 0x05, 0xDC, 0, 0, 0]) ∧
    reply (after (.readRuntime 0 1 [3, 1]) run) = some (.badArgument, 2, []) := by decide +kernel
theorem test_readEvents :
    reply (after (.readEvents 0 1 []) (writeEvent (.cycleSkew 5) run)) =
      some (.done, 1, [0, 0, 0, 0, 0, 7, 2, 0, 0, 0, 0, 0, 5, 0]) := by decide +kernel
/-- R88, R200: after the pattern, length 12 and step 4; the offset 500 N in 3 bytes, the band 10,000,000 µm/s
in 4, elapsed 5 and the peak 258 µm/s in 4. -/
theorem test_readCheck_widths :
    (contextBytes { State.reset.check with
      length := 12, step := 4, offset := 500, band := 10000000, elapsed := 5, peak := 258 }).drop 5 =
      [12, 4, 0, 1, 0xF4, 0, 0x98, 0x96, 0x80, 5, 0, 0, 1, 2] := by decide

theorem test_readCheck_fit : reply (after (.readCheck 0 1 [0]) run) = some (.badArgument, 255, []) := by
  decide +kernel
theorem test_enterOperate :
    (after (.enterOperate 0 1 []) config).mgmt.mode = .operate ∧
      reply (after (.enterOperate 0 1 []) { config with store := { store with road := ⟨[], 0⟩ } }) =
        some (.tableCheck, 1, []) := by decide +kernel
theorem test_enterConfig :
    reply (after (.enterConfig 0 1 []) (withGroup .slipping run)) = some (.wrongState, 17, [1]) ∧
      (after (.enterConfig 0 1 []) (withGroup .broken run)).group 1 =
        { GroupRt.reset with state := .opened, reason := .config } := by decide +kernel
theorem test_restart :
    ((after (.restart 0 1 []) (withDirect run)).report.queue.map fun e => e.body) =
      [.direct 2 false, .restarted] ∧
      (after (.restart 0 1 []) (withDirect run)).pacing.state = .listen := by decide +kernel
theorem test_halt : (after (.halt 0 1 []) run).pacing.haltPending = true := by decide +kernel
theorem test_stop :
    (after (.stop 75000 1 []) run).pacing.state = .halted ∧
      (after (.stop 75000 1 []) run).pacing.localDue = 100000 := by decide +kernel
theorem test_engage :
    ((after (.engage 0 1 [1]) run).group 1).state = .capturing ∧
      reply (after (.engage 0 1 [1]) (withDirect run)) = some (.busy, 2, []) := by decide +kernel
theorem test_release :
    ((after (.release 0 1 [1]) (withGroup .broken run)).group 1).reason = .release := by decide +kernel
theorem test_startCheck :
    (after (.startCheck 0 1 [1, 2, 0, 5, 8, 1, 0x01, 0x2C, 0, 0x0B, 0xB8]) (withGroup .locked run)
      ).check = ⟨true, 1, 2, 5, 8, 1, 300, 3000, 0, 0⟩ := by decide +kernel
theorem test_abortCheck :
    (after (.abortCheck 0 1 []) { run with check := { CheckContext.reset with running := true } }
      ).lastCheck.reason = .abortRequest := by decide +kernel
theorem test_directTorque :
    (after (.directTorque 0 1 [2, 0xFF, 0xFF, 0xFE, 0, 3]) run).direct 2 = ⟨true, -2, 3, .none⟩ := by
  decide +kernel
/-- R191: CELL_SILENT stays while pacing is HALTED, LINK_CHECK is cleared. -/
theorem test_clearFaults :
    let s := { inState .halted run with report := { Report.reset with faults := 0x0A } }
    (after (.clearFaults 0 1 [0, 0, 0x0A]) s).report.faults = 0x02 ∧
      reply (after (.clearFaults 0 1 [0, 0, 0x0A]) s) = some (.done, 1, [0, 0, 0x02]) := by
  decide +kernel
theorem test_silence :
    (after (.silence 150000) (inState .acquire run)).pacing.state = .listen ∧
      (after (.silence 149999) (inState .acquire run)).pacing.state = .acquire := by decide +kernel
theorem test_missedCycle :
    (after (.missedCycle 75500) run).pacing.state = .freewheel ∧
      (after (.missedCycle 75500) run).pacing.anchor = some 75500 := by decide +kernel
theorem test_localCycleBegin :
    let s := inState .halted run
    (after (.localCycleBegin 75000) { s with pacing := { s.pacing with localDue := 75000 } }
      ).pacing.index = 8 := by decide +kernel
/-- A DIRECT of one cycle gives one set-point, slewed, and expires (R77, R83). -/
theorem test_computationPoint :
    let s := withDirect run
    let t := after (.computationPoint 67500) { s with pacing := { s.pacing with cpDue := some 67500 } }
    t.setpoints.get 2 = ⟨500, .direct, false, true, 7⟩ ∧
      t.direct 2 = ⟨false, 1500, 0, .expired⟩ := by decide +kernel

/-- The part with a SYNC due on segment A at 52,500. -/
def due : State :=
  run.setSeg .a { run.seg .a with pendingSync := some { due := 52500, index := 7, serial := 7 } }

/-- R196: a SAFE SYNC of two entries. -/
theorem test_syncDue :
    (((after (.syncDue 0 .a) due).seg .a).sync.map fun y => y.frame.take 13) =
      some [0xA5, 0x02, 7, 0, 2, 0x10, 0, 0, 0, 0x20, 0, 0, 0] ∧
    (((after (.syncDue 0 .a) due).seg .a).sync.map (·.ends)) = some 53200 := by decide +kernel

/-- A window of slot 1 of segment A, open from 55,000 to 58,000. -/
def window (isOpen : Bool) (c : Candidate) : Window :=
  { opens := 55000, closes := 58000, serial := 7, page := 1, isOpen := isOpen, candidate := c }

def waiting (now : Nat) (busy : Bool) (w : Window) : State :=
  let s := { run with now := now }
  s.setSeg .a { s.seg .a with
    lineBusy := busy, replySlot := if busy then some 0 else none,
    slots := (s.seg .a).slots.set 0 { SlotRt.reset with window := some w } }

theorem test_windowOpen :
    ((after (.windowOpen 0 .a 0) (waiting 55000 false (window false .none))).slot .a 0).window =
      some (window true .none) := by decide +kernel
theorem test_replyStart :
    ((after (.replyStart 0 .a) (waiting 57999 false (window true .none))).seg .a).replySlot = some 0 ∧
      ((after (.replyStart 0 .a) (waiting 58000 false (window true .none))).seg .a).stray = 1 := by
  decide +kernel

/-- R197: a MEASURE of drive 1: 61,440 counts a second, 167.0 N·m, READY. -/
def measure : List Byte :=
  let body : List Byte := [0x5A, 0x01, 0x01, 0x00, 0x00, 0xF0, 0x00, 0x00, 0x06, 0x86, 0x01]
  body ++ [crc8 body]

theorem test_replyComplete :
    ((after (.replyComplete 0 .a measure) (waiting 56000 true (window true (.arriving [])))).slot .a 0
      ).window = some (window true (.complete measure)) := by decide +kernel
/-- R196: the last bytes of a reply, sent 99 periods and then 100 periods after the first. -/
theorem test_pause_within_a_reply :
    let paused := after (.replyComplete 56000 .a (measure.take 5))
      (waiting 56000 true (window true (.arriving [])))
    let resumed := after (.replyStart 56099 .a) paused
    ((after (.replyComplete 56500 .a (measure.drop 5)) resumed).slot .a 0).window =
        some (window true (.complete measure)) ∧
      ((after (.replyStart 56100 .a) paused).seg .a).stray = 1 := by decide +kernel
theorem test_windowClose :
    ((after (.windowClose 0 .a 0) (waiting 58000 false (window true (.complete measure)))).slot .a 0
      ).buffer = some ⟨61440, 1670, 0x01, 7⟩ ∧
    ((after (.windowClose 0 .a 0) (waiting 58000 true (window true (.arriving [])))).slot .a 0) =
      { SlotRt.reset with lastClass := .overrun, errors := 1 } := by decide +kernel
/-- R9: a marked station without a slot stays as it is. -/
theorem test_no_slot_no_test :
    let s := (run.setStation 0 { State.reset.station 0 with
      state := .waiting, init := { InitValues.clear with mark := .noInit } })
    ((intakeStation { s with store := { store with slots := State.reset.store.slots } } 0).station 0
      ).state = .waiting ∧ ((intakeStation s 0).station 0).reason = .noInit := by decide +kernel
theorem test_transmitDone :
    (after (.transmitDone 0) { run with port := { run.port with tx := ⟨true, [1], 0⟩ } }
      ).port.tx.sending = false := by decide +kernel
theorem test_byte_length_too_long :
    (after (.cellLinkByteReceived 0 201) (receiving .inFrame [3] run)).port.rx = .discard ∧
      (after (.cellLinkByteReceived 0 200) (receiving .inFrame [3] run)).port.burst = [3, 200] := by
  decide +kernel

/-! ## Witnesses: for each statement, what meets its hypotheses, clause by clause -/

theorem witness_StepTakesFront :
    ({ run with pending := [.lineIdle 1, .silence 2] } : State).pending = .lineIdle 1 :: [.silence 2] :=
  rfl
/-- No event due, and one. -/
theorem witness_StepWhenIdle :
    State.reset.pending = [] ∧ (∀ c, ¬ IsDue State.reset c) ∧
      ({ State.reset with now := 25 } : State).pending = [] ∧
      IsDue { State.reset with now := 25 } (.lineIdle 25) :=
  ⟨rfl, none_due, rfl, by unfold IsDue; decide⟩
theorem witness_BytesReceived :
    (receiving .discard [] run).port.rx = .discard ∧ run.port.rx = .ready ∧
      (receiving .inFrame [] run).port.burst = [] ∧ (receiving .inFrame [3] run).port.burst = [3] ∧
      200 < (201 : Byte).toNat ∧ (200 : Byte).toNat ≤ 200 ∧
      (receiving .inFrame [1, 1, 5] run).port.burst = 1 :: 1 :: [5] ∧
      ([5] : List Byte).length + 1 < (1 : Byte).toNat + 2 ∧
      ([5, 0] : List Byte).length + 1 = (1 : Byte).toNat + 2 := by decide +kernel
theorem witness_BytesMakeFrame :
    (Instr.start 60000 63).wf = true ∧ run.port.rx = .ready ∧
      ∃ bytes, frameBytes (.start 60000 63) = some bytes ∧ [1, 2, 3, 4, 60000].length = bytes.length ∧
        ∀ u ∈ [1, 2, 3, 4, 60000], u ≤ (Instr.start 60000 63).time :=
  ⟨by decide +kernel, by decide +kernel, frameBody 0x01 [0x3F], by decide +kernel, by decide +kernel,
    by decide +kernel⟩
theorem witness_FrameRoundTrip :
    (Instr.demand 0 .speed (-2147483648) 65535).wf = true ∧
      (frameBytes (.demand 0 .speed (-2147483648) 65535)).isSome = true ∧
      (Instr.unknown 0 0x00 9 (List.replicate 198 7)).wf = true ∧
      (frameBytes (.unknown 0 0x00 9 (List.replicate 198 7))).isSome = true := by decide +kernel
theorem witness_LinkCheck :
    (judge (0x01 :: 0x01 :: [0x3F] ++ [0, 0]) = .bad ∧
      judge (frameBody 0x02 [2, 0, 0, 0, 0, 0, 0]) ≠ .bad ∧
      judge (frameBody 0x02 [3, 0, 0, 0, 0, 0, 0]) = .bad ∧ judge (frameBody 0x03 [0, 0]) ≠ .bad ∧
      judge (frameBody 0x03 [0]) = .bad) ∧
    (receiving .idleWait [] run).port.rx = .idleWait ∧
      (receiving .inFrame [3] run).port.rx = .inFrame := by decide +kernel
/-- A full holder; an unfit argument; and a request that is answered, refused or DONE. -/
theorem witness_RequestsTurnedAway :
    ((full run).mgmt.holder.isSome = true ∧ ((Instr.halt 0 1 []).request?).isSome = true) ∧
    (run.mgmt.holder = none ∧ (Instr.halt 0 1 [0]).wf = true ∧
      (Instr.halt 0 1 [0]).request? = some (0x30, 1, [0]) ∧ argumentsFit 0x30 [0] = false) ∧
    ((Instr.halt 0 1 []).request? = some (0x30, 1, []) ∧
      reply (after (.halt 0 1 []) run) = some (.done, 0, []) ∧
      reply (after (.engage 0 1 [2]) run) = some (.badArgument, 0, [])) := by decide +kernel
theorem witness_RepliesLeave :
    run.pacing.state = .tracking ∧ (inState .listen run).port.tx.sending = false ∧
      ({ run with port := { run.port with tx := ⟨true, [1], 0⟩, replyOwed := true } } : State
        ).port.replyOwed = true := by decide +kernel
theorem witness_UplinkItems :
    let s : State := { run with store := { store with cell := { CellRec.reset with reportWidth := 2 } } }
    0 < s.store.cell.reportWidth ∧
      entryMatches 7 0 { enabled := true, kind := .slot, operand := 1, position := 0, repetition := 1,
                         offset := 0 } ∧
      (cycleItems s).map (·.1) = [.slot, .null] ∧ (cycleItems s).head? = some (.slot, 1) :=
  ⟨by decide +kernel, ⟨rfl, rfl, by decide +kernel⟩, by decide +kernel, by decide +kernel⟩
theorem witness_StatusHeaderFields : run.report.queue.length ≤ 32 := by decide +kernel
theorem witness_PerCycleUplink :
    run.port.tx.sending = false ∧
      (ItemKind.slot, 1) ∈
        cycleItems { run with store := { store with cell := { CellRec.reset with reportWidth := 1 } } } ∧
      slotOfOperand 1 = (.a, 1) := by decide +kernel
theorem witness_LoadsNeedConfig :
    (Instr.loadCell 0 1 (cellBytes CellRec.reset)).wf = true ∧
      argumentsFit 0x01 (cellBytes CellRec.reset) = true ∧ run.mgmt.mode = .operate := by decide +kernel
/-- A record in range, and one whose last field alone is out of it. -/
theorem witness_LoadCell :
    config.mgmt.holder = none ∧ config.mgmt.mode = .config ∧
    CellFits { CellRec.reset with period := 250, tol := 31, missedLimit := 15, demandHold := 255 } ∧
    let v := values [0, 1000, 20, 8, 4, 500, 500, 1999, 255, 8, 1, 1, 6, 262144]
    argumentsSized 1 [2, 1, 1, 1, 2, 2, 2, 1, 1, 1, 1, 1, 3] v ∧ firstFails (cellCheck v) 13 :=
  ⟨rfl, rfl, by constructor <;> decide, sized_of (by decide),
    by simp [cellCheck, values], fun m h => by interval_cases m <;> simp [cellCheck, values]⟩
theorem road_fits : RoadFits road := by constructor <;> decide
/-- A table that fits; one whose second row is not above its first; one row; and a band too wide. -/
theorem witness_LoadRoadload :
    config.mgmt.holder = none ∧ config.mgmt.mode = .config ∧ RoadFits road ∧
    firstFails (roadCheck ⟨[⟨9, 1⟩, ⟨9, 1⟩], 0⟩) 2 ∧ firstFails (roadCheck ⟨[⟨9, 1⟩], 0⟩) 0 ∧
    firstFails (roadCheck ⟨[⟨9, 1⟩, ⟨10, 1⟩], 2000001⟩) 25 :=
  ⟨rfl, rfl, road_fits,
    ⟨by simp [roadCheck], fun m h => by interval_cases m <;> simp [roadCheck]⟩,
    ⟨by simp [roadCheck], fun m h => absurd h (by omega)⟩,
    ⟨by simp [roadCheck], fun m h => by interval_cases m <;> simp [roadCheck]⟩⟩
/-- A record that fits; a station made absent; and one whose last field is out of its range. -/
theorem witness_LoadStation :
    config.mgmt.holder = none ∧ config.mgmt.mode = .config ∧
    StationFits { roller with torqueLimit := 300000, holdLimit := 8 } ∧
    (let widths := [1, 1, 3, 3, 1, 2, 2, 3, 3, 4, 1, 4, 1, 1, 3, 3, 2]
     let gone := values [3, 0, 0xFFFFFF]
     let v := values [3, 1, 500000, 75000, 0xFF, 1024, 3000, 300000, 300000, 90000000, 15, 90000000, 8,
      7, 1048576, 300000, 20001]
     (argumentsSized 0 widths gone ∧ gone 0 = (3 : Fin 4).val ∧ gone 1 = 0) ∧
      argumentsSized 0 widths v ∧ firstFails (stationCheck v) 16) :=
  ⟨rfl, rfl, by constructor <;> decide, ⟨sized_of (by decide), rfl, rfl⟩, sized_of (by decide),
    by simp [stationCheck, values], fun m h => by interval_cases m <;> simp [stationCheck, values]⟩
/-- A record that fits; a member of the other group; and a drift limit above the clamp. -/
theorem witness_LoadGroup :
    config.mgmt.holder = none ∧ config.mgmt.mode = .config ∧ GroupFits pair ∧
    ((0 : Fin 2) ≠ 1 ∧
      ∀ i, isMember pair i = true → isMember (config.store.groups.get 0) i = false) ∧
    (let widths := [1, 1, 1, 1, 2, 2, 3, 2, 1, 1, 2, 3, 3, 3, 1, 1, 2, 3, 2, 1]
     let v := values [0, 0x4]
     let w := values [1, 0xC, 0, 0, 2000, 100, 1, 600, 4, 2, 10, 3000, 5000, 40000, 2, 2, 3, 2]
     (argumentsSized 0 widths v ∧ (1 : Fin 2).val ≠ v 0 ∧
       firstFails (groupCheck (config.store.groups.get 1).members v) 1) ∧
     argumentsSized 0 widths w ∧ (0 : Fin 2).val ≠ w 0 ∧
       firstFails (groupCheck (config.store.groups.get 0).members w) 17) :=
  ⟨rfl, rfl, by constructor <;> decide, ⟨by decide, by decide +kernel⟩,
    ⟨sized_of (by decide), by decide, fun h => absurd (h.2 2 (by decide) (by decide)) (by decide),
      fun m h => by interval_cases m; simp [groupCheck, values]⟩,
    sized_of (by decide), by decide, by simp [groupCheck, values],
    fun m h => by
      interval_cases m <;> first | (simp [groupCheck, values]; done) | exact ⟨by decide, by decide⟩⟩
/-- A station named nowhere else on a segment at rest; a slot put out of use; a station that another
slot names; a segment number too great; and a segment in UP. -/
theorem witness_LoadSlot :
    config.mgmt.holder = none ∧ config.mgmt.mode = .config ∧
    (SlotFits (slotAt 0 15 1999 2000) ∧ (State.reset.seg .a).state = .down ∧
      ∀ g' k', slotNames State.reset.store (g', k') 0 → g' = .a ∧ k' = 0) ∧
    (let widths := [1, 1, 1, 1, 1, 2, 2]
     let v := values [0, 4, 1, 0, 15, 1999, 2000]
     (argumentsSized 0 widths (values [2, 4]) ∧ 1 < values [2, 4] 0) ∧
     (argumentsSized 0 widths (values [0, 4]) ∧ (config.seg .a).state = .up) ∧
     (values [0, 4] 1 = (3 : Fin 4).val + 1 ∧ values [0, 4] 2 = 0) ∧
     (argumentsSized 0 widths v ∧ v 0 = Seg.a.num.val) ∧
     firstFails (fun j => (slotCheck store .a v j).2) 6) := by
  refine ⟨rfl, rfl, ⟨by constructor <;> decide, rfl, fun g' k' h => absurd h.1 ?_⟩, ?_⟩
  · clear h; cases g' <;> revert k' <;> decide +kernel
  · refine ⟨⟨sized_of (by decide), by decide⟩, ⟨sized_of (by decide), rfl⟩, ⟨rfl, rfl⟩,
      ⟨sized_of (by decide), rfl⟩, fun h => ?_, fun m h => ?_⟩
    · exact absurd (h rfl .a 0 (by decide) (by decide)).2 (by decide)
    · interval_cases m <;> simp [slotCheck, values]
theorem witness_LoadSchedule :
    run.mgmt.holder = none ∧ 15 ≤ 15 ∧
    EntryFits { enabled := true, kind := .slot, operand := 7, position := 5, repetition := 64,
                offset := 63 } ∧
    (let widths := [1, 1, 1, 1, 1, 1, 1]
     let v := values [15, 1, 4, 7, 5, 64, 64]
     (argumentsSized 0 widths (values [15]) ∧ values [15] 0 ≤ 15 ∧ values [15] 1 = 0) ∧
     argumentsSized 0 widths v ∧ firstFails (entryCheck v) 6) :=
  ⟨rfl, by decide, ⟨rfl, by show 7 ≤ 7; decide, by decide, by decide, by decide⟩,
    ⟨sized_of (by decide), by decide, rfl⟩, sized_of (by decide),
    by simp [entryCheck, values], fun m h => by interval_cases m <;> simp [entryCheck, values]⟩
/-- The last operand in range of each of two selectors, and the first out of it. -/
theorem witness_Reads :
    run.mgmt.holder = none ∧
      (tableAnswer run 1 24).result = .done ∧ (tableAnswer run 1 25).detail = 2 ∧
      (tableAnswer run 1 0).detail = 2 ∧ (tableAnswer run 6 0).detail = 1 ∧
      (runtimeAnswer run 9 7).result = .done ∧ (runtimeAnswer run 9 8).detail = 2 ∧
      (runtimeAnswer run 10 0).detail = 1 := by decide +kernel
theorem witness_ReadEvents : (writeEvent .restarted run).mgmt.holder = none := by decide +kernel
theorem store_ready : StoreReady store := by
  intro n
  match n with
  | 0 => exact trivial
  | 1 => show 2 ≤ store.road.rows.length; decide
  | 2 => exact ⟨0, rfl⟩
  | 3 =>
    show presentShare store 0 + presentShare store 1 + presentShare store 2 + presentShare store 3 = 1024
    decide
  | 4 =>
    refine ⟨fun i _ => ?_, fun _ i h => by clear h; revert i; decide⟩
    match i with
    | 0 =>
      exact ⟨(.a, 0), by unfold slotNames; decide, fun (g, k) h => by
        revert h; unfold slotNames; cases g <;> revert k <;> decide⟩
    | 1 =>
      exact ⟨(.a, 1), by unfold slotNames; decide, fun (g, k) h => by
        revert h; unfold slotNames; cases g <;> revert k <;> decide⟩
    | 2 =>
      exact ⟨(.b, 0), by unfold slotNames; decide, fun (g, k) h => by
        revert h; unfold slotNames; cases g <;> revert k <;> decide⟩
    | 3 =>
      exact ⟨(.b, 1), by unfold slotNames; decide, fun (g, k) h => by
        revert h; unfold slotNames; cases g <;> revert k <;> decide⟩
  | 5 => show ∀ g, groupReady store g; unfold groupReady; decide
  | 6 => show ∀ i, rollerReady store i; unfold rollerReady; decide
  | 7 =>
    show ∀ g, windowsReady store g
    unfold windowsReady
    intro g
    cases g <;> decide
  | 8 =>
    show (store.cell.computeOffset : Int) < (store.cell.period : Int) - store.cell.tol
    decide
  | _ + 9 => exact trivial
/-- A store that is ready, and one that fails at its first check. -/
theorem witness_EnterOperate :
    StoreReady store ∧ config.mgmt.mode = .config ∧ run.mgmt.mode = .operate ∧
      (¬ storeCheck Store.reset 1 ∧ ∀ m < 1, storeCheck Store.reset m) :=
  ⟨store_ready, rfl, rfl, by show ¬ 2 ≤ Store.reset.road.rows.length; decide,
    fun m h => by match m, h with | 0, _ => exact trivial⟩
theorem witness_EnterConfig :
    run.mgmt.mode = .operate ∧ engaged ((withGroup .locked run).group 1) = true ∧
      (∀ g' < (1 : Fin 2), engaged ((withGroup .locked run).group g') = false) ∧
      (∀ g, engaged (run.group g) = false) ∧ ((withDirect run).direct 2).active = true ∧
      (∀ j < (2 : Fin 4), ((withDirect run).direct j).active = false) ∧
      ∀ i, (run.direct i).active = false := by decide +kernel
theorem witness_Restart : run.mgmt.holder = none := rfl
/-- STOP after the anchor + P: the next local cycle-begin is the second. -/
theorem witness_HaltAndStop :
    (inState .listen run).pacing.state = .listen ∧ (inState .halted run).pacing.state = .halted ∧
      run.pacing.anchor = some 50000 ∧ 0 < run.pacing.period ∧
      100000 = 50000 + 2 * (25 * run.pacing.period) ∧ max run.now 75000 < 100000 ∧
      (∀ m < 2, 1 ≤ m → 50000 + m * (25 * run.pacing.period) ≤ max run.now 75000) ∧
      50000 ≤ max run.now 75000 := by decide +kernel
theorem witness_HaltedEntry : HaltReason.cellSilent ≠ .none := by decide
theorem witness_Engage :
    (1 < (2 : Byte).toNat ∧ (1 : Byte).toNat = (1 : Fin 2).val ∧ run.mgmt.mode = .operate ∧
      config.mgmt.mode = .config) ∧
    (((withGroup .broken run).group 1).state ≠ .opened ∧ (run.group 1).state = .opened ∧
      (run.store.groups.get 0).members = 0 ∧ (run.store.groups.get 1).members ≠ 0 ∧
      running run = true ∧ running (inState .halted run) = false) ∧
    ((∀ i, isMember (run.store.groups.get 1) i = true → (run.station i).state = .live) ∧
      isMember (run.store.groups.get 1) 2 = true ∧ ((withDirect run).direct 2).active = true ∧
      (∀ j < (2 : Fin 4), ((withDirect run).direct j).active = false) ∧
      ∀ i, (run.direct i).active = false) := by decide +kernel
theorem witness_Release :
    1 < (2 : Byte).toNat ∧ (0 : Byte).toNat = (0 : Fin 2).val ∧ (run.group 0).state = .opened ∧
      ((withGroup .broken run).group 1).state ≠ .opened := by decide +kernel
theorem witness_StartAndAbortCheck :
    (8 ≤ 16 ∧ 16 ≤ 16 ∧ 8 ∈ [1, 2, 4, 8] ∧ 5000 ≤ 5000 ∧ 10000000 ≤ 10000000) ∧
    (((withGroup .locked run).group 1).state = .locked ∧ (withGroup .locked run).check.running = false ∧
      isMember ((withGroup .locked run).store.groups.get 1) 2 = true ∧
      isMember ((withGroup .locked run).store.groups.get 1) 0 = false ∧
      config.mgmt.mode = .config ∧ (run.group 1).state ≠ .locked ∧
      ({ run with check := { CheckContext.reset with running := true } } : State).check.running = true)
    := by decide +kernel
theorem witness_StartAndAbortCheck_argument :
    let v := values [1, 3, 65535, 16, 8, 5000, 10000001]
    run.mgmt.holder = none ∧ argumentsSized 0 [1, 1, 2, 1, 1, 2, 3] v ∧ firstFails (probeCheck v) 6 :=
  ⟨rfl, sized_of (by decide), by simp [probeCheck, values],
    fun m h => by interval_cases m <;> simp [probeCheck, values]⟩
theorem witness_DirectTorque :
    (3 < 4 ∧ 4 ≤ 255 ∧ config.mgmt.mode = .config ∧ run.mgmt.mode = .operate) ∧
    ((-300000 : Int).natAbs ≤ 300000 ∧ 300000 < (-300001 : Int).natAbs ∧
      -(2 ^ 23) ≤ (-300001 : Int) ∧ (-300001 : Int) < 2 ^ 23 ∧ 65535 ≤ 65535) ∧
    (((withDirect run).direct 2).active = true ∧ (run.direct 2).active = false ∧ running run = true ∧
      liveOrStale (run.station 2) = true ∧ running (inState .halted run) = false ∧
      liveOrStale (State.reset.station 2) = false ∧
      ∀ g, isMember (run.store.groups.get g) 2 = true → engaged (run.group g) = false) ∧
    (isMember ((withGroup .locked run).store.groups.get 1) 2 = true ∧
      engaged ((withGroup .locked run).group 1) = true ∧
      ∀ g' < (1 : Fin 2), isMember ((withGroup .locked run).store.groups.get g') 2 = false) := by
  decide +kernel

/-- Segment A JAMMED, on an idle or on a busy line. -/
def jammed (busy : Bool) : State :=
  let s := run.setSeg .a { run.seg .a with state := .jammed, lineBusy := busy }
  { s with report := { Report.reset with faults := 0x20 } }

def faultedStation : State := run.setStation 0 { run.station 0 with state := .faulted }

theorem witness_ClearFaults :
    (2 ^ 18 ≤ 262144 ∧ 262144 < 2 ^ 24) ∧
    (∀ g : Seg, (0x0A : BitVec 18).getLsbD (5 + g.num.val) = true → (run.seg g).state ≠ .jammed) ∧
    (∀ i : Fin 4, (0x0A : BitVec 18).getLsbD (11 + i.val) = true → (run.station i).state ≠ .faulted) ∧
    (((jammed false).seg .a).state = .jammed ∧ quiet 52500 ((jammed false).seg .a)) ∧
    (¬ quiet 52500 ((jammed true).seg .a) ∧ (jammed true).report.faults.getLsbD 5 = true) ∧
    (¬ quiet 52599 { (jammed false).seg .a with lastEnd := some 52500 }) ∧
    ((faultedStation.station 0).state = .faulted ∧ stationSegState faultedStation 0 = some .up ∧
      (faultedStation.station 0).init = booted ∧
      (∀ b, (faultedStation.station 0).status = some b → b.getLsbD 1 = false) ∧
      (∀ v, (faultedStation.station 0).speed = some v →
        v.natAbs < (faultedStation.station 0).overspeedLimit)) :=
  ⟨by decide, by intro g; cases g <;> decide +kernel, by decide +kernel,
    ⟨rfl, quiet_of rfl rfl⟩, ⟨fun h => absurd h.1 (by decide), by decide +kernel⟩,
    fun h => absurd (h.2 _ rfl) (by decide), rfl, by decide +kernel, rfl,
    fun b h => by cases h; decide, fun v h => by cases h; decide⟩
/-- A station whose segment is not UP, its flag latched: its re-test fails. -/
theorem witness_ClearFaults_failing :
    let s : State := { faultedStation with
      segs := State.reset.segs, report := { Report.reset with faults := 0x800 } }
    (s.station 0).state = .faulted ∧ stationSegState s 0 ≠ some .up ∧
      s.report.faults.getLsbD (11 + (0 : Fin 4).val) = true := by decide +kernel
/-- The first and the last moment of a good interval. -/
theorem witness_StartAcquiring :
    run.pacing.anchor = some 50000 ∧
      25 * (run.pacing.period : Int) - 25 * run.pacing.tol ≤ (74500 : Int) - 50000 ∧
      (75500 : Int) - 50000 ≤ 25 * (run.pacing.period + run.pacing.tol) ∧
      (8 : BitVec 6) = run.pacing.index + 1 ∧ run.pacing.confirm = 3 ∧
      ({ run with pacing := { run.pacing with confirm := 1 } } : State).pacing.confirm + 1 < 3 := by
  decide +kernel
/-- FREEWHEEL: a START before a quarter of P, and one at it. -/
theorem witness_StartRunning :
    run.pacing.anchor = some 50000 ∧ 50000 ≤ max run.now 0 ∧
      4 * ((56249 : Int) - 50000) < 25 * run.pacing.period ∧
      25 * (run.pacing.period : Int) ≤ 4 * (56250 - 50000) ∧ run.pacing.haltPending = false ∧
      run.pacing.goodRun + 1 < run.store.cell.rejoinCount := by decide +kernel
theorem witness_Deadlines :
    ((inState .acquire run).pacing.anchor = some 50000 ∧
      50000 + 25 * (4 * run.pacing.period) ≤ max run.now 150000 ∧
      max run.now 149999 < 50000 + 25 * (4 * run.pacing.period) ∧
      (inState .halted run).pacing.state = .halted ∧ run.pacing.localDue ≤ max run.now 0) ∧
    (run.pacing.anchor = some 50000 ∧
      50000 + 25 * (run.pacing.period + run.pacing.tol) ≤ max run.now 75500 ∧
      run.pacing.state = .tracking ∧ run.pacing.haltPending = false ∧
      1 < run.store.cell.missedLimit ∧ run.pacing.missed + 1 < run.store.cell.missedLimit ∧
      run.store.cell.missedLimit ≤ 7 + 1) := by decide +kernel
/-- A segment that boots, one that skips its boot, and one that stays UP. -/
theorem witness_CycleBeginAtSegment :
    let s : State := { run with segs := State.reset.segs }
    let skips : State := { s with store := { store with
      cell := { CellRec.reset with bootSkip := ⟨true, true⟩ } } }
    s.pacing.anchor = some 50000 ∧ (∀ k, (s.slot .a k).window = none) ∧ (s.seg .a).state = .down ∧
      s.pacing.state = .tracking ∧ (s.slotRec .a 0).enabled = true ∧
      s.report.faults.getLsbD 7 = false ∧ s.store.cell.bootSkip.get 0 = false ∧
      skips.store.cell.bootSkip.get 0 = true ∧ (run.seg .a).state = .up ∧
      (∀ k, (run.slot .a k).window = none) := by decide +kernel
/-- A SYNC due in UP, in BOOT and in DOWN, on a line that is idle, busy, and idle for less than 4 µs; below
the jam limit and at it; its entries SAFE or not. -/
theorem witness_SyncDue :
    ((due.seg .a).pendingSync = some ⟨52500, 7, 7⟩ ∧ 52500 ≤ max due.now 0 ∧
      (due.seg .a).state = .up ∧ quiet 52500 (due.seg .a)) ∧
    (quiet 52500 { due.seg .a with state := .boot } ∧
      ¬ quiet 52599 { due.seg .a with lastEnd := some 52500 } ∧
      ¬ quiet 52500 { due.seg .a with lineBusy := true }) ∧
    (0 + 1 < due.store.cell.jamLimit ∧ due.store.cell.jamLimit ≤ 2 + 1) ∧
    (let y : SetPoint := ⟨-200, .computed, false, false, 7⟩
     (∀ k, safeEntry due (due.slotRec .a k)) ∧
      ¬ safeEntry { due with setpoints := ⟨y, y, y, y⟩ } (due.slotRec .a 0)) :=
  ⟨⟨rfl, by decide, rfl, quiet_of rfl rfl⟩,
    ⟨quiet_of rfl rfl, fun h => absurd (h.2 _ rfl) (by decide), fun h => absurd h.1 (by decide)⟩,
    by decide, by unfold safeEntry; decide +kernel, by unfold safeEntry; decide +kernel⟩
theorem witness_WindowsAndReplies :
    ((waiting 55000 false (window false .none)).slot .a 0).window = some (window false .none) ∧
      (window false .none).opens ≤ max (waiting 55000 false (window false .none)).now 0 ∧
      max (waiting 57999 false (window true .none)).now 0 < (window true .none).closes ∧
      ¬ max (waiting 58000 false (window true .none)).now 0 < (window true .none).closes ∧
      ((waiting 55000 false (window false .none)).seg .a).sync = none ∧
      quiet 55000 ((waiting 55000 false (window false .none)).seg .a) ∧
      ((waiting 56000 true (window true (.arriving []))).seg .a).replySlot = some 0 :=
  ⟨rfl, by decide, by decide, by decide, rfl, quiet_of rfl rfl, rfl⟩
/-- A start 99 periods after the last character of a reply; and one during the part's own SYNC. -/
theorem witness_WindowsAndReplies_within :
    let paused := after (.replyComplete 56000 .a (measure.take 5))
      (waiting 56000 true (window true (.arriving [])))
    let sending := run.setSeg .a { run.seg .a with sync := some { frame := [], ends := 52501 } }
    ((paused.seg .a).lineBusy = false ∧ (paused.seg .a).lastEnd = some 56000 ∧
      max paused.now 56099 < 56000 + 100 ∧ (paused.seg .a).replySlot = some 0 ∧
      (paused.slot .a 0).window = some (window true (.complete (measure.take 5)))) ∧
    ((sending.seg .a).lastEnd = none ∧ (sending.seg .a).sync = some ⟨[], 52501⟩ ∧
      max sending.now 0 < 52501) := by decide +kernel
theorem witness_WindowCloses :
    let w := window true (.complete measure)
    ((waiting 58000 false w).slot .a 0).window = some w ∧ w.closes ≤ max (waiting 58000 false w).now 0 ∧
      ((waiting 58000 false w).seg .a).state = .up ∧ measure.head? = some 0x5A ∧
      measure.getLast? = some (crc8 measure.dropLast) ∧ measure.length = 12 := by decide +kernel

/-- R197: an INIT reply of drive 1, page 1, counts per revolution 4096. -/
def page : List Byte :=
  let body : List Byte := [0x5A, 0x01, 0x02, 0x01, 0x00, 0x00, 0x10, 0x00]
  body ++ [crc8 body]

def booting (c : Candidate) : State :=
  let s := { run with now := 58000 }
  s.setSeg .a { s.seg .a with
    state := .boot,
    slots := ⟨{ SlotRt.reset with window := some (window true c) },
      { SlotRt.reset with window := some (window true .none) }, SlotRt.reset, SlotRt.reset⟩ }

/-- The same with the second window closed. -/
def bootingLast (c : Candidate) : State :=
  (booting c).setSlot .a 1 SlotRt.reset

/-- R130: at a cycle-begin that enters HALTED a segment in BOOT ends in DOWN, with no SYNC, in either order
of the two, also where the close of the earlier cycle completes its boot. -/
theorem test_halted_cycle_begin_ends_boot :
    let s := inState .halted (booting (.complete page))
    ((segCycleBegin .a s).seg .a).state = .up ∧
    [haltAfterSteps .a (segCycleBegin .a s), segCycleBegin .a (segHalt .a s)].all (fun t =>
      decide ((t.seg .a).state = .down) && decide ((t.seg .a).reason = .halt)
        && decide ((t.seg .a).pendingSync = none)) = true := by decide +kernel

/-- BOOT: a MEASURE is of the wrong kind; with another window of the cycle, and as its last. -/
theorem witness_WindowCloses_boot :
    let c : Candidate := .complete measure
    ((booting c).slot .a 0).window = some (window true c) ∧ ((booting c).seg .a).state = .boot ∧
      replyClass .boot ((booting c).slotRec .a 0).address 1 c = .kind ∧
      ((booting c).slot .a 1).window ≠ none ∧
      ((bootingLast c).slot .a 0).window = some (window true c) ∧
      ∀ j, j ≠ 0 → ((bootingLast c).slot .a j).window = none := by decide +kernel
/-- A cycle-begin in BOOT with a good page; in UP with a reply arriving and with one not begun. -/
theorem witness_EarlierCycleClosed :
    let c : Candidate := .complete page
    ((booting c).seg .a).state = .boot ∧ ((booting c).slot .a 0).window = some (window true c) ∧
      (window true c).isOpen = true ∧ (window true c).page ≤ 3 ∧
      replyClass .boot ((booting c).slotRec .a 0).address 1 c = .good ∧
      (∀ j v, j ≠ 0 → ((booting c).slot .a j).window = some v →
        ((booting c).slotRec .a j).station ≠ ((booting c).slotRec .a 0).station) ∧
      countsError (replyClass .up 1 1 (.arriving [])) = true ∧
      countsError (replyClass .up 1 1 (.complete measure)) = false ∧
      ((waiting 54999 false (window false .none)).slot .a 0).window = some (window false .none) ∧
      ¬ ((window false .none).isOpen = true ∨
        (window false .none).opens ≤ (waiting 54999 false (window false .none)).now) :=
  ⟨rfl, rfl, rfl, by decide, by decide +kernel,
    fun j v hj _ => (by decide +kernel : ∀ j : Fin 4, j ≠ 0 →
      ((booting .none).slotRec .a j).enabled = true →
      ((booting .none).slotRec .a j).station ≠ ((booting .none).slotRec .a 0).station) j hj
      (by
        match j, hj with
        | 1, _ => rfl
        | 2, _ | 3, _ => contradiction),
    by decide, by decide +kernel, rfl, by decide⟩
/-- A halted cycle-begin with segment A in BOOT, its windows open or none, and segment B in UP. -/
theorem witness_SegmentsReached :
    (inState .halted (booting .none)).pacing.state = .halted ∧
      ((inState .halted (booting .none)).seg .a).state = .boot ∧
      ((inState .halted (booting .none)).seg .b).state ≠ .boot ∧
      (((inState .halted run).setSeg .a { run.seg .a with state := .boot }).seg .a).state = .boot ∧
      ∀ k, (((inState .halted run).setSeg .a { run.seg .a with state := .boot }).slot .a k).window =
        none := by decide +kernel

theorem witness_BootWindowCloses :
    (((booting (.complete page)).slot .a 0).window = some (window true (.complete page)) ∧
      ((booting (.complete page)).slot .a 1).window = some (window true .none) ∧
      ((booting (.complete page)).seg .a).state = .boot ∧ page.length = 9 ∧
      page.take 4 = [0x5A, BitVec.ofNat 8 ((booting .none).slotRec .a 0).address, 0x02, 0x01] ∧
      page.getLast? = some (crc8 page.dropLast) ∧ beNat ((page.drop 4).take 4) = 4096) ∧
    (((bootingLast (.complete page)).slot .a 0).window = some (window true (.complete page)) ∧
      ∀ j, j ≠ 0 → ((bootingLast (.complete page)).slot .a j).window = none) := by decide +kernel
/-- A complete station, one that is not, and the counts around the end of the boot. -/
theorem witness_BootEvaluated :
    validInit (run.station 0).init = true ∧ (run.station 0).init.identity.isSome = true ∧
      validInit (State.reset.station 0).init = false ∧ (run.slotRec .a 0).enabled = true ∧
      ({ run.seg .a with bootCount := 62 } : Segment).bootCount + 1 < 64 ∧
      64 ≤ ({ run.seg .a with bootCount := 63 } : Segment).bootCount + 1 := by decide +kernel

def atPoint (s : State) : State := { s with pacing := { s.pacing with cpDue := some 52500 } }

theorem witness_ComputationPoint :
    (atPoint run).pacing.cpDue = some 52500 ∧ 52500 ≤ max (atPoint run).now 0 ∧
      (atPoint config).mgmt.mode = .config := by decide +kernel
/-- A demand as old as its hold: it is lost at this computation point. -/
theorem witness_ComputationPoint_losing :
    let s : State := atPoint { run with demand := { run.demand with age := 20 } }
    s.port.pendingDemand.arrived = false ∧ s.demand.lost = false ∧
      s.store.cell.demandHold < min (s.demand.age + 1) 255 := by decide +kernel
theorem witness_SetPointLimits :
    let s := atPoint (withDirect run)
    s.pacing.cpDue = some 52500 ∧ ((after (.computationPoint 0) s).setpoints.get 2).source = .direct ∧
      ((after (.computationPoint 0) s).setpoints.get 0).source = .computed ∧
      (∀ g, isMember (s.store.groups.get g) 0 = false) ∧ s.check.running = false := by decide +kernel
/-- Assembly: a DIRECT that is slewed, and the sum of four forces that is not; and a SAFE station. -/
theorem witness_SetPointLimits_assembly :
    ((withDirect run).direct 2).active = true ∧ ((withDirect run).direct 2).torque = 1500 ∧
      ((run.store.stations.get 2).slew : Int) < |1500 - (run.station 2).slewMemory| ∧
      isMember (run.store.groups.get 1) 3 = true ∧ isMember (run.store.groups.get 0) 3 = false ∧
      RoundsTo ((92 + 75 + 0 + 0) * (run.store.stations.get 3).radius) 100000 334 ∧
      |334 - (run.station 3).slewMemory| ≤ (run.store.stations.get 3).slew ∧
      liveOrStale (run.station 3) = true ∧ stationSegState run 3 = some .up ∧
      run.pacing.state ≠ .halted ∧ config.mgmt.mode = .config := by
  unfold RoundsTo; decide +kernel
theorem witness_RoadLoad :
    RoadFits road ∧ road.rows.head? = some ⟨5000, 180⟩ ∧ road.rows.getLast? = some ⟨30000, 680⟩ ∧
      (300000 ≤ road.band ∧ road.band < 300001 ∧ 5000000 ≤ 5000 * 1000 ∧ 30000 * 1000 ≤ 30000000) ∧
      road.rows[2]? = some ⟨15000, 290⟩ ∧ 15000 * 1000 ≤ 15000000 ∧ 15000000 < 20000 * 1000 :=
  ⟨road_fits, rfl, rfl, by decide, rfl, by decide, by decide⟩
/-- A band greater than the first breakpoint; a speed below and one above the next breakpoint. -/
theorem witness_RoadLoad_aboveBand :
    let t : RoadTable := { road with rows := ⟨1000, 100⟩ :: road.rows, band := 1500000 }
    RoadFits t ∧ t.rows.head? = some ⟨1000, 100⟩ ∧ t.rows[0]? = some ⟨1000, 100⟩ ∧
      t.rows[1]? = some ⟨5000, 180⟩ ∧ t.rows[2]? = some ⟨10000, 220⟩ ∧
      (t.band < 1500001 ∧ 1000 * 1000 ≤ 1500001 ∧ 1500001 < 5000 * 1000) ∧
      (1000 * 1000 < t.band ∧ 1000 * 1000 ≤ t.band ∧ ¬ 5000 * 1000 ≤ t.band) ∧
      vehicleForce t 1500000 = 0 ∧ [5000000, 7500000].map (vehicleForce t) = [180, 200] := by
  refine ⟨?_, rfl, rfl, rfl, rfl, by decide, by decide, by decide +kernel, by decide +kernel⟩
  constructor <;> decide
/-- ROAD: a member of an engaged group, and a station in none. -/
theorem witness_RoadLoad_gated :
    let s : State := { run with demand := { run.demand with prevMode := .road } }
    let t := s.setGroup 1 { s.group 1 with state := .locked, reference := some 20000000 }
    s.demand.prevMode = .road ∧ (s.store.stations.get 2).present = true ∧
      liveOrStale (s.station 2) = true ∧
      (isMember (t.store.groups.get 1) 2 = true ∧ engaged (t.group 1) = true ∧
        (t.group 1).reference = some 20000000 ∧
        ∀ g', isMember (t.store.groups.get g') 2 = true → g' = 1) ∧
      (∀ g, isMember (s.store.groups.get g) 0 = false) ∧ (s.station 0).speed = some 20000000 ∧
      run.demand.prevMode ≠ .road := by decide +kernel
/-- The limits and the conversion of 1.3 and 1.5; a LIVE station with a ring, and an ABSENT one. -/
theorem witness_Measures :
    (roller.present = true ∧ booted.ratedTorque = some 12000 ∧ booted.ratedSpeed = some 3000 ∧
      RoundsTo ((3000 * roller.circumference : Nat) : Int) 60 ((62831850 : Nat) : Int)) ∧
    (booted.counts = some 4096 ∧ booted.mark = .none ∧
      RoundsTo (61440 * (if roller.direction = .plus then 1 else -1) * (roller.circumference : Int)) 4096
        18849555) ∧
    (InitValues.clear.counts = none ∧ InitValues.clear.ratedTorque = none) ∧
    (liveOrStale (run.station 0) = true ∧ (run.station 0).speed = some 20000000 ∧
      liveOrStale (State.reset.station 0) = false) := by
  unfold RoundsTo; decide +kernel

/-- Station 0 with a fresh record of a status and a speed in counts a second. -/
def fresh (status : Byte) (cps : Int) (x : StationRt) : State :=
  ((run.setStation 0 x).setSlot .a 0
    { SlotRt.reset with buffer := some ⟨cps, 1670, status, 7⟩ })

theorem witness_StationIntake :
    ((run.store.stations.get 0).present = true ∧ liveOrStale (run.station 0) = true) ∧
    (stationSegState (jammed false) 0 = some .jammed ∧ stationSegState run 0 = some .up ∧
      freshRecord run 0 = none ∧ (run.station 0).init.mark = .none) ∧
    (run.store.stations.get 0).holdLimit < (3 : Nat) + 1 ∧
    (freshRecord (fresh 0x02 61440 (live 18848050)) 0 = some ⟨61440, 1670, 0x02, 7⟩ ∧
      (0x02 : Byte).getLsbD 1 = true) ∧
    (surfaceSpeed roller booted ⟨61440, 1670, 0x01, 7⟩ = some 18849555 ∧
      (18849555 - 18848050 : Int).natAbs ≤ roller.maxStep ∧
      (18849555 : Int).natAbs < (live 18848050).overspeedLimit) ∧
    (surfaceSpeed roller booted ⟨204800, 0, 0x01, 7⟩ = some 62831850 ∧
      (live 62800000).overspeedLimit ≤ (62831850 : Int).natAbs) ∧
    (roller.maxStep < (18849555 - 19349556 : Int).natAbs ∧ (faultedStation.station 0).state = .faulted ∧
      (0x00 : Byte).getLsbD 0 = false ∧ (State.reset.station 0).state = .absent) := by decide +kernel
/-- The slot of a station, and none. -/
theorem witness_StationIntake_slot :
    (∀ gk, some (Seg.a, (0 : Fin 4)) = some gk ↔ slotNames run.store gk 0) ∧
      ∀ gk, (none : Option (Seg × Fin 4)) = some gk ↔ slotNames State.reset.store gk 0 := by
  constructor <;> rintro ⟨g, k⟩ <;> unfold slotNames <;> cases g <;> revert k <;> decide +kernel
/-- A force above the authority that pushes outward, and one that does not. -/
theorem witness_LockCorrection :
    ((30 : Int) < |42| ∧ (0 : Int) < 20000 * 42) ∧ ¬ ((60 : Int) < |42| ∧ (0 : Int) < 20000 * 42) ∧
      (500000 : Int).natAbs ≤ pair.integratorClamp * 1000 := by decide +kernel

/-- Group 1 CAPTURING, with a reference. -/
def capturing : State :=
  run.setGroup 1 { GroupRt.reset with state := .capturing, reference := some 20000000 }

theorem corrected_iff (i : Fin 4) :
    corrected (capturing.store.groups.get 1) capturing.demand.prevMode i ↔
      isMember (capturing.store.groups.get 1) i = true :=
  ⟨fun h => h.1, fun h => ⟨h, fun k => absurd k.1 (by decide)⟩⟩

/-- A capturing group: what its members' errors and corrections are. -/
theorem witness_LockStage :
    let s := capturing
    let r := s.store.groups.get 1
    let x := s.group 1
    let e (i : Fin 4) : Int := if isMember r i then errorOf (s.station i) x.reference else 0
    let y (i : Fin 4) : Int × Int :=
      if isMember r i then correct r s.pacing.period 150 (e i) (x.integrator.get i) else (0, 0)
    r.members ≠ 0 ∧ engaged x = true ∧ min (x.c + 1) r.captureCycles = 1 ∧
      r.authority * 1 / r.captureCycles = 150 ∧
      (∀ i, corrected r s.demand.prevMode i → e i = errorOf (s.station i) x.reference ∧
        ((y i).1, (y i).2) = correct r s.pacing.period 150 (e i) (x.integrator.get i)) ∧
      (∀ i, ¬ corrected r s.demand.prevMode i → e i = 0 ∧ (y i).1 = 0 ∧ (y i).2 = 0) ∧
      e 2 = 6000 := by
  refine ⟨by decide +kernel, by decide +kernel, by decide +kernel, by decide +kernel,
    fun i h => ?_, fun i h => ?_, by decide +kernel⟩
  · simp [(corrected_iff i).1 h]
  · simp [mt (corrected_iff i).2 h]
/-- A group at rest, and one without members. -/
theorem witness_LockStage_rest :
    (run.store.groups.get 0).members = 0 ∧ (run.store.groups.get 1).members ≠ 0 ∧
      engaged (run.group 1) = false := by decide +kernel

theorem witness_ReferenceStage :
    let s := withGroup .locked run
    (s.store.groups.get 1).members ≠ 0 ∧ engaged (s.group 1) = true ∧
      (∀ i, isMember (s.store.groups.get 1) i = true → (s.station i).state ≠ .faulted) ∧
      (s.store.groups.get 1).kind = .mean ∧ memberSpeeds s 1 = [20006000, 19994000] ∧
      (2 * (20000000 * 2 - 40000000 : Int).natAbs ≤ 2) := by decide +kernel
/-- A member FAULTED; a group without members; a LEADER group; and a ramp in SPEED. -/
theorem witness_ReferenceStage_cases :
    let s := withGroup .locked run
    let lost := s.setStation 2 { s.station 2 with state := .faulted }
    let led : State := { s with store := { store with
      groups := ⟨GroupRec.reset, { pair with kind := .leader, leader := 3 }⟩ } }
    let ramping := { s.setGroup 1 { s.group 1 with ramped := some 20000000 } with
      demand := { s.demand with prevMode := .speed, target := 25000 } }
    (isMember (lost.store.groups.get 1) 2 = true ∧ (lost.station 2).state = .faulted) ∧
    (s.store.groups.get 0).members = 0 ∧
    ((led.store.groups.get 1).kind = .leader ∧ liveOrStale (led.station 3) = true ∧
      (led.station 3).speed = some 19994000) ∧
    (ramping.demand.prevMode = .speed ∧ (ramping.group 1).ramped = some 20000000 ∧
      engaged (ramping.group 1) = true ∧ RoundsTo (pair.accelLimit * ramping.pacing.period) 1000 2000) :=
  by unfold RoundsTo; decide +kernel
/-- A check at its last pattern cycle, and one that is complete. -/
theorem witness_ProbeStage :
    let c : CheckContext := ⟨true, 1, 2, 5, 8, 1, 300, 3000, 7, 0⟩
    ((withGroup .locked { run with check := c }).group 1).state = .locked ∧ c.elapsed ≠ c.length * c.step ∧
      ({ c with elapsed := 8 } : CheckContext).elapsed = 8 * 1 ∧
      ((withGroup .slipping { run with check := c }).group 1).state = .slipping := by decide +kernel

/-- A queue that is full, its sequences running over 65,535. -/
def fullQueue : State :=
  { run with
    report := { Report.reset with
      nextSequence := 5,
      queue := (List.range 32).map fun j => ⟨BitVec.ofNat 16 (65509 + j), 7, .restarted⟩ } }

theorem witness_QueueInOrderKept :
    QueueInOrder fullQueue ∧ ∃ t, step fullQueue = .next t :=
  ⟨⟨by decide +kernel, fun j e h => by
    have hj : j < 32 := by
      have := (List.getElem?_eq_some_iff.1 h).1
      simpa [fullQueue] using this
    interval_cases j <;> (cases h; decide +kernel)⟩, _, rfl⟩

/-- Group 1 LOCKED with a correction in force. -/
def held : State :=
  run.setGroup 1 { GroupRt.reset with
    state := .locked, aEff := 600, reference := some 20000000, measured := some 20000000,
    ring := [20000000], integrator := ⟨0, 0, 13500, -13500⟩, force := ⟨0, 0, 3, -3⟩ }

theorem witness_GroupsBoundedKept : GroupsBounded held ∧ ∃ t, step held = .next t :=
  ⟨fun g => by
    match g with
    | 0 => exact ⟨by decide, by decide, by decide, by decide⟩
    | 1 => exact ⟨by decide, by decide, by decide, by decide⟩, _, rfl⟩
theorem held_store : StoreConsistent held :=
  ⟨by decide, by intro g k g' k'; revert k k'; cases g <;> cases g' <;> decide, by decide, rfl⟩
theorem witness_RunConsistentKept :
    RunConsistent held ∧ SafeEntries held ∧ StoreConsistent held ∧ ∃ t, step held = .next t :=
  ⟨⟨by decide, by decide, by decide, by decide⟩, by unfold SafeEntries; decide, held_store, _, rfl⟩
theorem witness_StoreConsistentKept :
    StoreConsistent held ∧ LimitsDerived held ∧ ∃ t, step held = .next t :=
  ⟨held_store, by unfold LimitsDerived; decide +kernel, _, rfl⟩
theorem fits_of (o : Option Int) (h : o.all (fun z => decide (z.natAbs ≤ 90000000)) = true) (z : Int)
    (hz : o = some z) : speedFits z := by
  subst hz
  simpa [speedFits] using h
theorem witness_SpeedsBoundedKept : SpeedsBounded held ∧ ∃ t, step held = .next t := by
  refine ⟨?_, _, rfl⟩
  constructor
  case speed => exact fun i => fits_of _ (by revert i; decide)
  case ring => exact fun i => ⟨by revert i; decide, by revert i; unfold speedFits; decide⟩
  case groupRing => exact fun g => ⟨by revert g; decide, by revert g; unfold speedFits; decide⟩
  case accel | refAccel => decide
  case measured | ramped | reference => intro g; exact fits_of _ (by revert g; decide)
  case pending | effective => unfold demandFits; decide
theorem witness_CountersSaturateKept :
    CountersSaturate { held with demand := { held.demand with age := 255 } } ∧
      ∃ t, step { held with demand := { held.demand with age := 255 } } = .next t :=
  ⟨by constructor <;> decide, _, rfl⟩

end Sys2Proof.Tests
end

section
/-! SUPPORT. The lock groups' requests: a request taken with an empty holder, events written beside other
updates, the end of a check and the opening of a group as whole-state equations, the members of a group, and
what ENGAGE and RELEASE answer, case by case. -/

namespace Sys2Proof.Machine

variable {s : State}

/-! ## A request's taking (R168, R198) -/

/-- R168: a request taken with an empty holder gets its body's answer. -/
theorem takeRequest_of_empty {s' : State} {a : Answer} {body : Request} (code tag : Byte)
    (h : s.mgmt.holder = none) (hb : body s = (s', a)) :
    Host.Outcome.next (takeRequest code tag body s) = answered code tag a s s' := by
  simp [takeRequest, answered, h, hb]

theorem splitFields_byte (n : Byte) : splitFields [1] [n] = some [n.toNat] := by
  simp [splitFields, beNat]

/-! ## Events beside other updates (R193) -/

/-- A record written changes the report alone. -/
theorem writeEvent_eq_setReport (b : EventBody) (s : State) :
    writeEvent b s = s.setReport (writeEvent b s).report := by
  simp only [writeEvent]
  split <;> rfl

/-- What a record written makes of the report is fixed by the report and the serial. -/
theorem writeEvent_report_congr (b : EventBody) {s s' : State} (hr : s.report = s'.report)
    (hs : s.pacing.serial = s'.pacing.serial) : (writeEvent b s).report = (writeEvent b s').report := by
  by_cases h : s'.report.queue.length < 32 <;> simp [writeEvent, latch, hr, hs, h]

theorem writeEvent_setGroups (b : EventBody) (s : State) (x : Two GroupRt) :
    writeEvent b (s.setGroups x) = (writeEvent b s).setGroups x := by
  rw [writeEvent_eq_setReport, writeEvent_eq_setReport b s,
    writeEvent_report_congr b (s := s.setGroups x) (s' := s) rfl rfl]
  rfl

theorem writeEvent_setCheck (b : EventBody) (s : State) (x : CheckContext) :
    writeEvent b (s.setCheck x) = (writeEvent b s).setCheck x := by
  rw [writeEvent_eq_setReport, writeEvent_eq_setReport b s,
    writeEvent_report_congr b (s := s.setCheck x) (s' := s) rfl rfl]
  rfl

theorem writeEvent_setLastCheck (b : EventBody) (s : State) (x : LastCheck) :
    writeEvent b (s.setLastCheck x) = (writeEvent b s).setLastCheck x := by
  rw [writeEvent_eq_setReport, writeEvent_eq_setReport b s,
    writeEvent_report_congr b (s := s.setLastCheck x) (s' := s) rfl rfl]
  rfl

@[simp] theorem writeEvent_groups (b : EventBody) (s : State) : (writeEvent b s).groups = s.groups := by
  rw [writeEvent_eq_setReport, State.setReport_groups]

@[simp] theorem writeEvent_check (b : EventBody) (s : State) : (writeEvent b s).check = s.check := by
  rw [writeEvent_eq_setReport, State.setReport_check]

@[simp] theorem writeEvent_lastCheck (b : EventBody) (s : State) :
    (writeEvent b s).lastCheck = s.lastCheck := by
  rw [writeEvent_eq_setReport, State.setReport_lastCheck]

@[simp] theorem writeEvents_groups (bs : List EventBody) (s : State) :
    (writeEvents bs s).groups = s.groups :=
  foldl_keeps State.groups _ (fun s b => writeEvent_groups b s) bs s

theorem writeEvents_singleton (b : EventBody) (s : State) : writeEvents [b] s = writeEvent b s := rfl

theorem writeEvents_append_singleton (bs : List EventBody) (b : EventBody) (s : State) :
    writeEvents (bs ++ [b]) s = writeEvent b (writeEvents bs s) := by
  simp [writeEvents]

/-! ## A group's change of state, and the end of a check (R61, R64, R97) -/

/-- R61: the record of a group's change carries its new reason and its greatest |e|. -/
theorem groupEvent_setGroup (g : Fin 2) (s : State) (x : GroupRt) :
    groupEvent g (s.setGroup g x)
      = (writeEvent (.group g x.reason x.maxError) s).setGroups (s.groups.set g x) := by
  simp [groupEvent, State.setGroup, State.group, writeEvent_setGroups]

theorem openGroup_eq (g : Fin 2) (reason : GroupReason) (s : State) :
    openGroup g reason s = (writeEvent (.group g reason (s.group g).maxError) s).setGroups
      (s.groups.set g (openedRt reason (s.group g))) :=
  groupEvent_setGroup g s _

/-- R97, R99: the end of a check, where one runs, is its record, its context and its last-check record. -/
theorem abortCheck_eq (reason : CheckReason) (s : State) :
    abortCheck reason s = ((writeEvents (checkAborts reason s) s).setCheck
      { s.check with running := false }).setLastCheck (abortedRecord reason s) := by
  cases h : s.check.running with
  | true =>
    simp [abortCheck, endCheck, checkAborts, abortedRecord, h, writeEvents, writeEvent_setLastCheck,
      writeEvent_setCheck, lastCheckOf]
  | false =>
    have hc : { s.check with running := false } = s.check := by rw [← h]
    simp only [abortCheck_of_idle reason h, checkAborts, abortedRecord, h, hc]
    rfl

/-- R64, R99: where the check context is of the group, a running check ends before the group's record is
written; the group's runtime goes to OPEN. -/
theorem releaseGroup_eq (g : Fin 2) (s : State) :
    let ends := decide (s.check.group = g)
    releaseGroup g s =
      { writeEvents ((if ends then checkAborts .release s else [])
          ++ [.group g .release (s.group g).maxError]) s with
        check := if ends then { s.check with running := false } else s.check,
        lastCheck := if ends then abortedRecord .release s else s.lastCheck,
        groups := s.groups.set g (openedRt .release (s.group g)) } := by
  by_cases h : s.check.group = g
  · simp [releaseGroup, h, openGroup_eq, abortCheck_eq, State.group, writeEvents_append_singleton,
      writeEvent_setLastCheck, writeEvent_setCheck]
    rfl
  · simp [releaseGroup, h, openGroup_eq, writeEvents_singleton, State.setGroups]

/-! ## The members of a group -/

theorem four_eq_finRange : four = List.finRange 4 := rfl

/-- The search goes through the members lowest first. -/
theorem find?_membersOf_eq_some_iff {r : GroupRec} {p : Fin 4 → Bool} {i : Fin 4} :
    (membersOf r).find? p = some i ↔
      isMember r i = true ∧ p i = true ∧ ∀ j < i, isMember r j = true → p j = false := by
  rw [membersOf, List.find?_filter, four_eq_finRange, ← Fin.find?_eq_find?_finRange,
    Fin.find?_eq_some_iff]
  simp [and_assoc]

theorem mem_membersOf {r : GroupRec} {i : Fin 4} : i ∈ membersOf r ↔ isMember r i = true := by
  simp [membersOf, four_eq_finRange]

theorem find?_membersOf_eq_none_iff {r : GroupRec} {p : Fin 4 → Bool} :
    (membersOf r).find? p = none ↔ ∀ i, isMember r i = true → p i = false := by
  simp [List.find?_eq_none, mem_membersOf]

theorem membersOf_isEmpty_iff {r : GroupRec} : (membersOf r).isEmpty = true ↔ r.members = 0 := by
  rw [List.isEmpty_iff, List.eq_nil_iff_forall_not_mem]
  simp only [mem_membersOf, isMember, Bool.not_eq_true]
  constructor
  · exact fun h => BitVec.eq_of_getLsbD_eq fun k hk => by simpa using h ⟨k, hk⟩
  · intro h i
    simp [h]

/-! ## ENGAGE (R62, R63) -/

theorem engage_of_no_group {n : Byte} (h : 1 < n.toNat) :
    engage [n] s = (s, refusedWith .badArgument 0) := by
  simp [engage, splitFields_byte, h]

theorem engage_of_config {n : Byte} (h : n.toNat ≤ 1) (hm : s.mgmt.mode = .config) :
    engage [n] s = (s, refusedWith .wrongMode 0) := by
  simp [engage, splitFields_byte, Nat.not_lt.2 h, hm]

theorem ofNat_eq_of_val {n : Nat} {g : Fin 2} (h : n = g.val) : Fin.ofNat 2 n = g := by
  subst h
  exact Fin.ofNat_val_eq_self g

section Operate

variable {n : Byte} {g : Fin 2} (h : n.toNat = g.val) (hm : s.mgmt.mode = .operate)
include h hm

/-- R62: in OPERATE, the first of checks 3 to 7 that fails refuses. -/
theorem engage_of_refusal {a : Answer} (hr : engageRefusal s g = some a) : engage [n] s = (s, a) := by
  have hn : ¬ 1 < n.toNat := by omega
  simp only [engage, splitFields_byte, if_neg hn, hm, ne_eq, not_true, if_false, ofNat_eq_of_val h, hr]

/-- R63: an ENGAGE that passes its checks begins a capture, recorded in the queue. -/
theorem engage_of_no_refusal (hr : engageRefusal s g = none) :
    engage [n] s = (groupEvent g (s.setGroup g (engagedRt (s.group g))), doneWith 0 []) := by
  have hn : ¬ 1 < n.toNat := by omega
  simp only [engage, splitFields_byte, if_neg hn, hm, ne_eq, not_true, if_false, ofNat_eq_of_val h, hr]

end Operate

section Checks

variable {g : Fin 2}

theorem engageRefusal_of_not_opened (h : (s.group g).state ≠ .opened) :
    engageRefusal s g = some (refusedWith .wrongState 17) := by
  simp [engageRefusal, h]

theorem engageRefusal_of_no_members (ho : (s.group g).state = .opened)
    (h : (s.store.groups.get g).members = 0) :
    engageRefusal s g = some (refusedWith .badArgument 1) := by
  simp [engageRefusal, ho, membersOf_isEmpty_iff.2 h]

variable (ho : (s.group g).state = .opened) (hm : (s.store.groups.get g).members ≠ 0)
include ho hm

theorem engageRefusal_of_not_running (h : running s = false) :
    engageRefusal s g = some (refusedWith .wrongState 16) := by
  simp [engageRefusal, ho, mt membersOf_isEmpty_iff.1 hm, h]

variable (hr : running s = true)
include hr

/-- R62, check 6: the lowest member that is not LIVE. -/
theorem engageRefusal_of_not_live {i : Fin 4} (hi : isMember (s.store.groups.get g) i = true)
    (h : (s.station i).state ≠ .live)
    (hlow : ∀ j < i, isMember (s.store.groups.get g) j = true → (s.station j).state = .live) :
    engageRefusal s g = some (refusedWith .wrongState i.val) := by
  have hf : (membersOf (s.store.groups.get g)).find?
      (fun i => decide ((s.station i).state ≠ .live)) = some i :=
    find?_membersOf_eq_some_iff.2 ⟨hi, by simpa using h, fun j hj hjm => by simpa using hlow j hj hjm⟩
  simp only [engageRefusal, ho, ne_eq, not_true, if_false, mt membersOf_isEmpty_iff.1 hm, hr,
    Bool.not_true, Bool.false_eq_true, hf]

variable (hl : ∀ i, isMember (s.store.groups.get g) i = true → (s.station i).state = .live)
include hl

/-- R62, check 7: with every member LIVE, the lowest member with an active DIRECT. -/
theorem engageRefusal_of_live :
    engageRefusal s g = ((membersOf (s.store.groups.get g)).find? fun i => (s.direct i).active).map
      fun i => refusedWith .busy i.val := by
  have hf : (membersOf (s.store.groups.get g)).find?
      (fun i => decide ((s.station i).state ≠ .live)) = none :=
    find?_membersOf_eq_none_iff.2 fun i hi => by simpa using hl i hi
  simp only [engageRefusal, ho, mt membersOf_isEmpty_iff.1 hm, hr, hf]
  cases (membersOf (s.store.groups.get g)).find? fun i => (s.direct i).active <;> rfl

theorem engageRefusal_of_direct {i : Fin 4} (hi : isMember (s.store.groups.get g) i = true)
    (h : (s.direct i).active = true)
    (hlow : ∀ j < i, isMember (s.store.groups.get g) j = true → (s.direct j).active = false) :
    engageRefusal s g = some (refusedWith .busy i.val) := by
  rw [engageRefusal_of_live ho hm hr hl, find?_membersOf_eq_some_iff.2 ⟨hi, h, hlow⟩, Option.map_some]

theorem engageRefusal_none
    (h : ∀ i, isMember (s.store.groups.get g) i = true → (s.direct i).active = false) :
    engageRefusal s g = none := by
  rw [engageRefusal_of_live ho hm hr hl, find?_membersOf_eq_none_iff.2 h, Option.map_none]

end Checks

/-- An ENGAGE taken with an empty holder gets its body's answer. -/
theorem exec_engage {s' : State} {a : Answer} (t : Nat) (tag n : Byte) (h : s.mgmt.holder = none)
    (hb : engage [n] (arrive t s) = (s', a)) :
    exec (.engage t tag [n]) s = answered 0x40 tag a (arrive t s) s' :=
  takeRequest_of_empty 0x40 tag h hb

/-! ## RELEASE (R64) -/

theorem release_of_no_group {n : Byte} (h : 1 < n.toNat) :
    release [n] s = (s, refusedWith .badArgument 0) := by
  simp [release, splitFields_byte, h]

theorem release_of_opened {n : Byte} {g : Fin 2} (h : n.toNat = g.val)
    (ho : (s.group g).state = .opened) : release [n] s = (s, doneWith 0 []) := by
  have hn : ¬ 1 < n.toNat := by omega
  simp only [release, splitFields_byte, if_neg hn, ofNat_eq_of_val h, if_pos ho]

theorem release_of_not_opened {n : Byte} {g : Fin 2} (h : n.toNat = g.val)
    (ho : (s.group g).state ≠ .opened) : release [n] s = (releaseGroup g s, doneWith 0 []) := by
  have hn : ¬ 1 < n.toNat := by omega
  simp only [release, splitFields_byte, if_neg hn, ofNat_eq_of_val h, if_neg ho]

/-- A RELEASE taken with an empty holder gets its body's answer. -/
theorem exec_release {s' : State} {a : Answer} (t : Nat) (tag n : Byte) (h : s.mgmt.holder = none)
    (hb : release [n] (arrive t s) = (s', a)) :
    exec (.release t tag [n]) s = answered 0x41 tag a (arrive t s) s' :=
  takeRequest_of_empty 0x41 tag h hb

end Sys2Proof.Machine
end

section
/-! PROOF. The lock groups' requests. -/

namespace Sys2Proof.Proofs

open Sys2Proof.Machine

/-- Settles O30: ENGAGE is the first of its checks that fails, each a lemma of its own, or the capture. -/
theorem engage : Obligations.Engage := by
  intro t tag n s hs refused
  have refuse {r d} (h : Machine.engage [n] (arrive t s) = (arrive t s, refusedWith r d)) :
      refused r d := exec_engage t tag n hs h
  refine ⟨fun hn => refuse (engage_of_no_group hn), fun hn hc => refuse (engage_of_config hn hc),
    fun g hg hop => ?_⟩
  have fails {r d} (h : engageRefusal (arrive t s) g = some (refusedWith r d)) : refused r d :=
    refuse (engage_of_refusal (s := arrive t s) hg hop h)
  refine ⟨fun h => fails (engageRefusal_of_not_opened h), fun ho =>
    ⟨fun h => fails (engageRefusal_of_no_members ho h), fun hm =>
      ⟨fun h => fails (engageRefusal_of_not_running ho hm h), fun hr =>
        ⟨fun i hi h hlow => fails (engageRefusal_of_not_live ho hm hr hi h hlow), fun hl =>
          ⟨fun i hi h hlow => fails (engageRefusal_of_direct ho hm hr hl hi h hlow), fun hd => ?_⟩⟩⟩⟩⟩
  have body := engage_of_no_refusal (s := arrive t s) hg hop (engageRefusal_none ho hm hr hl hd)
  rw [groupEvent_setGroup, ← writeEvent_setGroups] at body
  exact exec_engage t tag n hs body

/-- Settles O31: a group that is not OPEN goes through `releaseGroup`. -/
theorem release : Obligations.Release := by
  intro t tag n s hs
  refine ⟨fun hn => exec_release t tag n hs (release_of_no_group hn), fun g hg =>
    ⟨fun ho => exec_release t tag n hs (release_of_opened hg ho), fun ho => ?_⟩⟩
  have body := release_of_not_opened (s := arrive t s) hg ho
  rw [releaseGroup_eq g (arrive t s)] at body
  exact exec_release t tag n hs body

end Sys2Proof.Proofs
end

section
/-! SUPPORT. DIRECT_TORQUE: the end and the start of a DIRECT as whole-state equations, its fields read back,
and what its body answers, case by case. -/

namespace Sys2Proof

theorem Four.set_set {α : Type} (v : Four α) (i : Fin 4) (a b : α) : (v.set i a).set i b = v.set i b :=
  Four.ext_get fun j => by by_cases h : j = i <;> simp [h]

end Sys2Proof

namespace Sys2Proof.Machine

variable {s : State}

/-! ## The end and the start of a DIRECT (R81, R83) -/

theorem writeEvent_setDirects (b : EventBody) (s : State) (x : Four Direct) :
    writeEvent b (s.setDirects x) = (writeEvent b s).setDirects x := by
  rw [writeEvent_eq_setReport, writeEvent_eq_setReport b s,
    writeEvent_report_congr b (s := s.setDirects x) (s' := s) rfl rfl]
  rfl

theorem endDirect_of_active (cause : EndCause) {i : Fin 4} (h : (s.direct i).active = true) :
    endDirect cause i s = writeEvent (.direct i false) (s.setDirects (s.directs.set i
      { s.direct i with active := false, remaining := 0, endCause := cause })) := by
  simp [endDirect, h, State.setDirect]

/-- R81, R82: an active DIRECT ends as REPLACED, its END event before the START event of the new one; the
cause of a DIRECT that ended before stays. -/
theorem startDirect_eq (i : Fin 4) (torque : Int) (duration : Nat) (s : State) :
    startDirect i torque duration s =
      { writeEvents ((if (s.direct i).active then [.direct i false] else []) ++ [.direct i true]) s with
        directs := s.directs.set i
          { active := true, torque := torque, remaining := duration,
            endCause := if (s.direct i).active then .replaced else (s.direct i).endCause } } := by
  cases h : (s.direct i).active with
  | false =>
    simp only [startDirect, endDirect_of_inactive _ i h, State.setDirect, writeEvent_setDirects]
    rfl
  | true =>
    simp only [startDirect, endDirect_of_active _ h, State.setDirect, State.direct,
      writeEvent_setDirects, State.setDirects_directs, Four.set_set, Four.get_set]
    rfl

/-! ## The checks of DIRECT_TORQUE (R80) -/

section Checks

variable {i : Fin 4} {torque : Int}

theorem directRefusal_of_torque (h : 300000 < torque.natAbs) :
    directRefusal s i torque = some (refusedWith .badArgument 1) := by
  simp [directRefusal, h]

variable (ht : torque.natAbs ≤ 300000)
include ht

theorem directRefusal_of_not_running (h : running s = false) :
    directRefusal s i torque = some (refusedWith .wrongState 16) := by
  simp [directRefusal, Nat.not_lt.2 ht, h]

variable (hr : running s = true)
include hr

theorem directRefusal_of_not_live (h : liveOrStale (s.station i) = false) :
    directRefusal s i torque = some (refusedWith .wrongState 18) := by
  simp [directRefusal, Nat.not_lt.2 ht, hr, h]

variable (hl : liveOrStale (s.station i) = true)
include hl

/-- R80, check 7: the lowest engaged group with the station as a member. -/
theorem directRefusal_of_live :
    directRefusal s i torque = (Fin.find? fun g =>
      isMember (s.store.groups.get g) i && engaged (s.group g)).map fun g => refusedWith .busy g.val := by
  rw [Fin.find?_eq_find?_finRange, show List.finRange 2 = [0, 1] from rfl]
  simp only [directRefusal, if_neg (Nat.not_lt.2 ht), hr, hl, Bool.not_true, Bool.false_eq_true, if_false]
  cases ([0, 1] : List (Fin 2)).find? fun g =>
    isMember (s.store.groups.get g) i && engaged (s.group g) <;> rfl

theorem directRefusal_of_engaged {g : Fin 2} (hm : isMember (s.store.groups.get g) i = true)
    (he : engaged (s.group g) = true)
    (hlow : ∀ g' < g, ¬ (isMember (s.store.groups.get g') i = true ∧ engaged (s.group g') = true)) :
    directRefusal s i torque = some (refusedWith .busy g.val) := by
  have hf : (Fin.find? fun g => isMember (s.store.groups.get g) i && engaged (s.group g)) = some g :=
    Fin.find?_eq_some_iff.2 ⟨by simp [hm, he], fun g' hg' => by simpa using hlow g' hg'⟩
  rw [directRefusal_of_live ht hr hl, hf, Option.map_some]

theorem directRefusal_none
    (h : ∀ g, isMember (s.store.groups.get g) i = true → engaged (s.group g) = false) :
    directRefusal s i torque = none := by
  have hf : (Fin.find? fun g => isMember (s.store.groups.get g) i && engaged (s.group g)) = none :=
    Fin.find?_eq_none_iff.2 fun g => by simpa using h g
  rw [directRefusal_of_live ht hr hl, hf, Option.map_none]

end Checks

/-! ## The body of DIRECT_TORQUE (R80 to R82) -/

/-- R195, R198: a DIRECT_TORQUE's fields read back, the torque in two's complement. -/
theorem splitFields_directTorque {n duration : Nat} {torque : Int} (hn : n ≤ 255)
    (hlo : -(2 ^ 23) ≤ torque) (hhi : torque < 2 ^ 23) (hd : duration ≤ 65535) :
    ∃ raw, splitFields [1, 3, 2] (packed [(1, n), (3, torque), (2, duration)]) = some [n, raw, duration] ∧
      signedField 3 raw = torque := by
  refine ⟨beNat (beInt 3 torque), ?_, signedField_beInt 3 torque (by norm_num; omega) (by norm_num; omega)⟩
  have hbytes : packed [(1, (n : Int)), (3, torque), (2, (duration : Int))]
      = beBytes 1 n ++ (beInt 3 torque ++ (beBytes 2 duration ++ [])) := by
    rw [packed_cons, packed_cons (3, torque), packed_nat, packed_int, packed_nat, List.append_nil]
  rw [hbytes, splitFields_beBytes, beInt, splitFields_beBytes, splitFields_beBytes, beNat_beBytes]
  simp [splitFields]
  omega

theorem directTorque_of_no_station {args : List Byte} {n raw duration : Nat}
    (hf : splitFields [1, 3, 2] args = some [n, raw, duration]) (h : 3 < n) :
    directTorque args s = (s, refusedWith .badArgument 0) := by
  simp [directTorque, hf, h]

theorem directTorque_of_config {args : List Byte} {n raw duration : Nat}
    (hf : splitFields [1, 3, 2] args = some [n, raw, duration]) (h : n ≤ 3)
    (hm : s.mgmt.mode = .config) : directTorque args s = (s, refusedWith .wrongMode 0) := by
  simp [directTorque, hf, Nat.not_lt.2 h, hm]

section Operate

variable {args : List Byte} {i : Fin 4} {raw duration : Nat}
  (hf : splitFields [1, 3, 2] args = some [i.val, raw, duration]) (hm : s.mgmt.mode = .operate)
include hf hm

/-- R82: a duration of 0 cancels, before the torque or the station is looked at. -/
theorem directTorque_of_zero (hd : duration = 0) :
    directTorque args s = (endDirect .cancelled i s, doneWith 0 []) := by
  have hi : ¬ 3 < i.val := by omega
  simp [directTorque, hf, hi, hm, hd]

variable (hd : duration ≠ 0)
include hd

/-- R80: the first of checks 4 to 7 that fails refuses. -/
theorem directTorque_of_refusal {a : Answer} (hr : directRefusal s i (signedField 3 raw) = some a) :
    directTorque args s = (s, a) := by
  have hi : ¬ 3 < i.val := by omega
  simp [directTorque, hf, hi, hm, hd, hr]

/-- R81: a DIRECT_TORQUE that passes its checks starts the DIRECT. -/
theorem directTorque_of_no_refusal (hr : directRefusal s i (signedField 3 raw) = none) :
    directTorque args s = (startDirect i (signedField 3 raw) duration s, doneWith 0 []) := by
  have hi : ¬ 3 < i.val := by omega
  simp [directTorque, hf, hi, hm, hd, hr]

end Operate

/-- A DIRECT_TORQUE taken with an empty holder gets its body's answer. -/
theorem exec_directTorque {s' : State} {a : Answer} {args : List Byte} (t : Nat) (tag : Byte)
    (h : s.mgmt.holder = none) (hb : directTorque args (arrive t s) = (s', a)) :
    exec (.directTorque t tag args) s = answered 0x60 tag a (arrive t s) s' :=
  takeRequest_of_empty 0x60 tag h hb

end Sys2Proof.Machine
end

section
/-! PROOF. DIRECT_TORQUE. -/

namespace Sys2Proof.Proofs

open Sys2Proof.Machine

/-- Settles O33: DIRECT_TORQUE is the first of its checks that fails, each a lemma of its own, or the end of
the station's DIRECT, or the start of a new one. -/
theorem directTorque : Obligations.DirectTorque := by
  intro t tag n torque duration s hs hn hlo hhi hd c refused done
  obtain ⟨raw, hf, rfl⟩ := splitFields_directTorque hn hlo hhi hd
  have answers {u a} (h : Machine.directTorque _ (arrive t s) = (u, a)) :
      exec c s = answered 0x60 tag a (arrive t s) u := exec_directTorque t tag hs h
  refine ⟨fun h => answers (directTorque_of_no_station hf h),
    fun h hc => answers (directTorque_of_config hf h hc), ?_⟩
  rintro i rfl hop
  have fails (h0 : duration ≠ 0) {r d}
      (h : directRefusal (arrive t s) i (signedField 3 raw) = some (refusedWith r d)) : refused r d :=
    answers (directTorque_of_refusal (s := arrive t s) hf hop h0 h)
  refine ⟨fun h0 => ?cancel, fun h0 h => fails h0 (directRefusal_of_torque h), fun h0 ht =>
    ⟨fun h => fails h0 (directRefusal_of_not_running ht h), fun hr =>
      ⟨fun h => fails h0 (directRefusal_of_not_live ht hr h), fun hl =>
        ⟨fun g hm he hlow => fails h0 (directRefusal_of_engaged ht hr hl hm he hlow), fun hfree =>
          ?start⟩⟩⟩⟩
  case cancel =>
    have body := directTorque_of_zero (s := arrive t s) hf hop h0
    refine ⟨fun ha => ?_, fun ha => ?_⟩
    · rw [endDirect_of_inactive _ i (s := arrive t s) ha] at body
      exact answers body
    · rw [endDirect_of_active _ (s := arrive t s) ha] at body
      exact answers body
  case start =>
    have body := directTorque_of_no_refusal (s := arrive t s) hf hop h0
      (directRefusal_none ht hr hl hfree)
    rw [startDirect_eq] at body
    exact answers body

end Sys2Proof.Proofs
end

section
/-! SUPPORT. The coupling check: the fields of a request read back at once, the first argument check that
fails, what START_CHECK and ABORT_CHECK answer, and what the probe stage does, case by case. -/

namespace Sys2Proof.Machine

variable {s : State}

/-! ## Fields and checks by their numbers (R171, R198) -/

/-- R195, R198: unsigned fields that fit their widths read back. -/
theorem splitFields_packed (fields : List (Nat × Nat)) (h : ∀ f ∈ fields, f.2 < 256 ^ f.1) :
    splitFields (fields.map (·.1)) (packed (fields.map fun f => (f.1, (f.2 : Int))))
      = some (fields.map (·.2)) := by
  induction fields with
  | nil => rfl
  | cons f fs ih =>
    rw [List.forall_mem_cons] at h
    obtain ⟨hf, hfs⟩ := h
    rw [List.map_cons, List.map_cons, List.map_cons, packed_cons, packed_nat, splitFields_beBytes,
      ih hfs, Option.map_some, Nat.mod_eq_of_lt hf]

theorem splitFields_arguments {first : Nat} {widths : List Nat} {v : Nat → Nat}
    (h : argumentsSized first widths v) :
    splitFields widths (arguments first widths v)
      = some (widths.zipIdx.map fun w => v (first + w.2)) := by
  have read := splitFields_packed (widths.zipIdx.map fun w => (w.1, v (first + w.2)))
    (by
      intro f hf
      obtain ⟨⟨w, j⟩, hw, rfl⟩ := List.mem_map.1 hf
      exact h j w (List.mem_zipIdx_iff_getElem?.1 hw))
  simp only [List.map_map, Function.comp_def, List.zipIdx_map_fst] at read
  exact read

/-- R171: of checks listed by ascending number, each deciding what its number asks, the search finds the
first number that fails. -/
theorem firstFailing_of_firstFails {checks : List (Nat × Bool)} {check : Nat → Prop} {n : Nat}
    (hsorted : checks.Pairwise (·.1 < ·.1)) (hdecides : ∀ c ∈ checks, (c.2 = true ↔ check c.1))
    (hlisted : n ∈ checks.map (·.1)) (h : firstFails check n) : firstFailing checks = some n := by
  obtain ⟨⟨k, ok⟩, hmem, rfl⟩ := List.mem_map.1 hlisted
  obtain ⟨before, after, rfl⟩ := List.append_of_mem hmem
  obtain ⟨hfails, hearlier⟩ := h
  obtain rfl : ok = false := Bool.eq_false_iff.2 (mt (hdecides _ hmem).1 hfails)
  refine firstFailing_some.2 ⟨before, after, rfl, fun c hc => ?_⟩
  obtain ⟨-, -, hlt⟩ := List.pairwise_append.1 hsorted
  exact (hdecides c (List.mem_append_left _ hc)).2 (hearlier _ (hlt c hc _ List.mem_cons_self))

/-! ## START_CHECK (R90, R91) -/

/-- R90: the first of checks 1 to 6 that fails. -/
theorem firstFailing_checkArguments {v : Nat → Nat} {n : Nat} (h : firstFails (probeCheck v) n) :
    firstFailing (checkArguments (v 0) (v 1) (v 3) (v 4) (v 5) (v 6)) = some n := by
  refine firstFailing_of_firstFails (check := probeCheck v) ?sorted ?decides ?listed h
  case sorted => simp [checkArguments]
  case decides => simp [checkArguments, probeCheck, inRange]
  case listed =>
    obtain ⟨hfails, -⟩ := h
    by_contra hn
    simp only [checkArguments, List.map_cons, List.map_nil, List.mem_cons, List.not_mem_nil, or_false,
      not_or] at hn
    exact hfails (by simp [probeCheck, hn])

theorem checkArguments_pass {g : Fin 2} {i : Fin 4} {length step offset band : Nat} (hl : 8 ≤ length)
    (hl' : length ≤ 16) (hst : step ∈ [1, 2, 4, 8]) (ho : 1 ≤ offset) (ho' : offset ≤ 5000)
    (hb : band ≤ 10000000) :
    firstFailing (checkArguments g.val i.val length step offset band) = none := by
  have hg : g.val ≤ 1 := by omega
  have hi : i.val ≤ 3 := by omega
  rw [firstFailing_none]
  simpa [checkArguments, inRange, hg, hi, hl, hl', ho, ho', hb] using hst

/-- R90, check 10: a member that is not the leader may be probed. -/
theorem mayProbe_iff {r : GroupRec} {i : Fin 4} :
    mayProbe r i = true ↔ isMember r i = true ∧ ¬ (r.kind = .leader ∧ r.leader = i) := by
  simp [mayProbe, imp_iff_not_or]

/-- R195, R198: a START_CHECK's fields read back. -/
theorem splitFields_startCheck (g : Fin 2) (i : Fin 4) (pattern : BitVec 16)
    {length step offset band : Nat} (hl : length ≤ 16) (hst : step ∈ [1, 2, 4, 8])
    (ho : offset ≤ 5000) (hb : band ≤ 10000000) :
    splitFields [1, 1, 2, 1, 1, 2, 3] (packed [(1, g.val), (1, i.val), (2, pattern.toNat), (1, length),
      (1, step), (2, offset), (3, band)])
      = some [g.val, i.val, pattern.toNat, length, step, offset, band] := by
  have hs : step < 256 := by
    simp only [List.mem_cons, List.not_mem_nil, or_false] at hst
    omega
  refine splitFields_packed [(1, g.val), (1, i.val), (2, pattern.toNat), (1, length), (1, step),
    (2, offset), (3, band)] ?_
  simp
  omega

theorem startCheck_of_argument {args : List Byte} {n m pattern length step offset band k : Nat}
    (hf : splitFields [1, 1, 2, 1, 1, 2, 3] args = some [n, m, pattern, length, step, offset, band])
    (hk : firstFailing (checkArguments n m length step offset band) = some k) :
    startCheck args s = (s, refusedWith .badArgument k) := by
  simp [startCheck, hf, hk]

section InRange

variable {args : List Byte} {g : Fin 2} {i : Fin 4} {pattern : BitVec 16}
  {length step offset band : Nat}
  (hf : splitFields [1, 1, 2, 1, 1, 2, 3] args
    = some [g.val, i.val, pattern.toNat, length, step, offset, band])
  (hp : firstFailing (checkArguments g.val i.val length step offset band) = none)
include hf hp

theorem startCheck_of_config (hm : s.mgmt.mode = .config) :
    startCheck args s = (s, refusedWith .wrongMode 0) := by
  simp [startCheck, hf, hp, hm]

variable (hm : s.mgmt.mode = .operate)
include hm

theorem startCheck_of_not_locked (h : (s.group g).state ≠ .locked) :
    startCheck args s = (s, refusedWith .wrongState 17) := by
  simp [startCheck, hf, hp, hm, h]

variable (hlock : (s.group g).state = .locked)
include hlock

theorem startCheck_of_running (h : s.check.running = true) :
    startCheck args s = (s, refusedWith .busy s.check.group.val) := by
  simp [startCheck, hf, hp, hm, hlock, h]

variable (hidle : s.check.running = false)
include hidle

theorem startCheck_of_not_mayProbe (h : mayProbe (s.store.groups.get g) i = false) :
    startCheck args s = (s, refusedWith .badArgument 1) := by
  simp [startCheck, hf, hp, hm, hlock, hidle, h]

/-- R91: a START_CHECK that passes its checks writes the whole context. -/
theorem startCheck_of_mayProbe (h : mayProbe (s.store.groups.get g) i = true) :
    startCheck args s = (s.setCheck
      { running := true, group := g, station := i, pattern := pattern, length := length, step := step,
        offset := offset, band := band, elapsed := 0, peak := 0 }, doneWith 0 []) := by
  simp [startCheck, hf, hp, hm, hlock, hidle, h, startedCheck]

end InRange

/-- A START_CHECK taken with an empty holder gets its body's answer. -/
theorem exec_startCheck {s' : State} {a : Answer} {args : List Byte} (t : Nat) (tag : Byte)
    (h : s.mgmt.holder = none) (hb : startCheck args (arrive t s) = (s', a)) :
    exec (.startCheck t tag args) s = answered 0x50 tag a (arrive t s) s' :=
  takeRequest_of_empty 0x50 tag h hb

/-! ## ABORT_CHECK (R98) -/

theorem abortRequest_of_running (h : s.check.running = true) :
    abortRequest s
      = (endCheck .aborted .abortRequest (.aborted .abortRequest) s, doneWith 1 []) := by
  simp [abortRequest, abortCheck, h]

theorem abortRequest_of_idle (h : s.check.running = false) : abortRequest s = (s, doneWith 0 []) := by
  simp [abortRequest, h]

/-- An ABORT_CHECK taken with an empty holder gets its body's answer. -/
theorem exec_abortCheck {s' : State} {a : Answer} (t : Nat) (tag : Byte) (h : s.mgmt.holder = none)
    (hb : abortRequest (arrive t s) = (s', a)) :
    exec (.abortCheck t tag []) s = answered 0x51 tag a (arrive t s) s' :=
  takeRequest_of_empty (body := noArgs abortRequest []) 0x51 tag h hb

/-! ## The probe stage (R92 to R97) -/

theorem probeStage_of_idle (h : s.check.running = false) : probeStage s = (s, noProbe) := by
  simp [probeStage, h]

/-- R96: the probe forces at a computation point of the check: the offset at the probed station where the
pattern's bit is set, nothing elsewhere. -/
theorem noProbe_set_probeOffset (c : CheckContext) :
    noProbe.set c.station (probeOffset c) = Four.tabulate fun i =>
      if i = c.station ∧ c.pattern.getLsbD (c.elapsed / c.step) = true then (c.offset : Int) else 0 :=
  Four.ext_get fun i => by
    rw [Four.get_set, Four.get_tabulate, noProbe, zeros, Four.get_tabulate, probeOffset, ite_and]

theorem judgeCheck_of_pass (h : s.check.peak ≤ s.check.band) :
    judgeCheck s = endCheck .pass .completed .pass s := if_pos h

theorem judgeCheck_of_fail (h : s.check.band < s.check.peak) :
    judgeCheck s = endCheck .fail .completed .fail (latch .checkFailed s) := if_neg (Nat.not_le.2 h)

section Running

variable (hr : s.check.running = true)
include hr

/-- R93: a check ends ABORTED where its group is no longer LOCKED. -/
theorem probeStage_of_not_locked (h : (s.group s.check.group).state ≠ .locked) :
    probeStage s =
      (endCheck .aborted (abortReasonOf (s.group s.check.group).state)
        (.aborted (abortReasonOf (s.group s.check.group).state)) s, noProbe) := by
  simp [probeStage, hr, h]

variable (hlock : (s.group s.check.group).state = .locked)
include hlock

/-- R95: a complete check is judged, its last peak included. -/
theorem probeStage_of_complete (h : s.check.elapsed = s.check.length * s.check.step) :
    probeStage s = (judgeCheck (updatePeak s), noProbe) := by
  simp [probeStage, updatePeak, hr, hlock, h]

/-- R94, R96: a check that is not complete takes the peak and counts the cycle, and its pattern's bit gives
the probe force. -/
theorem probeStage_of_incomplete (h : s.check.elapsed ≠ s.check.length * s.check.step) :
    probeStage s =
      ((updatePeak s).setCheck { (updatePeak s).check with elapsed := s.check.elapsed + 1 },
        noProbe.set s.check.station (probeOffset s.check)) := by
  simp [probeStage, updatePeak, probeOffset, hr, hlock, h]

end Running

end Sys2Proof.Machine
end

section
/-! PROOF. The coupling check. -/

namespace Sys2Proof.Proofs

open Sys2Proof.Machine

/-- Settles O32: START_CHECK is the first of its checks that fails, each a lemma of its own, or the context
written; ABORT_CHECK is the end of the running check. -/
theorem startAndAbortCheck : Obligations.StartAndAbortCheck := by
  refine ⟨fun t tag v n s hs hsized hfails => ?argument, ?start, fun t tag s hs =>
    ⟨fun hr => exec_abortCheck t tag hs (abortRequest_of_running (s := arrive t s) hr),
      fun hr => exec_abortCheck t tag hs (abortRequest_of_idle (s := arrive t s) hr)⟩⟩
  case argument =>
    exact exec_startCheck t tag hs
      (startCheck_of_argument (splitFields_arguments hsized) (firstFailing_checkArguments hfails))
  case start =>
    intro t tag g i pattern length step offset band s hs hl hl' hst ho ho' hb c refused
    have hf := splitFields_startCheck g i pattern hl' hst ho' hb
    have hp := checkArguments_pass (g := g) (i := i) hl hl' hst ho ho' hb
    have answers {u a} (h : startCheck _ (arrive t s) = (u, a)) :
        exec c s = answered 0x50 tag a (arrive t s) u := exec_startCheck t tag hs h
    refine ⟨fun hm => answers (startCheck_of_config hf hp hm), fun hm =>
      ⟨fun h => answers (startCheck_of_not_locked hf hp hm h), fun hlock =>
        ⟨fun hr => answers (startCheck_of_running (s := arrive t s) hf hp hm hlock hr), fun hidle =>
          ⟨fun h => ?leader, fun hmem hlead => ?starts⟩⟩⟩⟩
    case leader =>
      refine answers (startCheck_of_not_mayProbe (s := arrive t s) hf hp hm hlock hidle ?_)
      rw [Bool.eq_false_iff, ne_eq, mayProbe_iff]
      rintro ⟨hmem, hlead⟩
      exact h.elim (fun hno => Bool.false_ne_true (hno.symm.trans hmem)) hlead
    case starts =>
      exact answers (startCheck_of_mayProbe (s := arrive t s) hf hp hm hlock hidle
        (mayProbe_iff.2 ⟨hmem, hlead⟩))

/-- Settles O54: each case of the stage is a lemma of its own; the end of a check is `endCheck`. -/
theorem probeStage : Obligations.ProbeStage := by
  intro s c x peak ended
  refine ⟨probeStage_of_idle, fun hr =>
    ⟨?aborted, fun hlock hdone => ?complete, fun hlock hmore => ?probes⟩⟩
  case aborted =>
    intro reason h
    have hx : x.state ≠ .locked ∧ abortReasonOf x.state = reason := by
      rcases h with ⟨hx, rfl⟩ | ⟨hx, rfl⟩ | ⟨hx, rfl⟩ <;> simp [hx, abortReasonOf]
    obtain ⟨hlost, rfl⟩ := hx
    exact probeStage_of_not_locked hr hlost
  case complete =>
    rw [probeStage_of_complete hr hlock hdone]
    refine ⟨fun hpass => ?_, fun hfail => ?_⟩
    · rw [judgeCheck_of_pass (s := updatePeak s) hpass]; rfl
    · rw [judgeCheck_of_fail (s := updatePeak s) hfail]; rfl
  case probes =>
    rw [probeStage_of_incomplete hr hlock hmore, noProbe_set_probeOffset]
    rfl

end Sys2Proof.Proofs
end

section
/-! SUPPORT. HALT and STOP: the next local cycle-begin as the first one later than now, and what each request
answers, by the pacing state. -/

namespace Sys2Proof.Machine

variable {s : State}

/-! ## The next local cycle-begin (R121) -/

/-- The number of the first whole period later than `d` is one more than the periods that `d` holds. -/
theorem div_add_one_eq_of_first {d q n : Nat} (hn : 1 ≤ n) (hlt : d < n * q)
    (hfirst : ∀ m, 1 ≤ m → m < n → m * q ≤ d) : d / q + 1 = n := by
  obtain ⟨k, rfl⟩ : ∃ k, n = k + 1 := ⟨n - 1, by omega⟩
  have hle : k * q ≤ d := by
    rcases Nat.eq_zero_or_pos k with rfl | hk
    · simp
    · exact hfirst k hk k.lt_succ_self
  rw [Nat.div_eq_of_lt_le hle hlt]

/-- R121: of the moments a whole number of periods after the anchor, `nextLocal` is the first one later than
now. -/
theorem nextLocal_eq_of_first {a n : Nat} (hanchor : s.pacing.anchor = some a) (hn : 1 ≤ n)
    (ha : a ≤ s.now) (hlt : s.now < a + n * us s.pacing.period)
    (hfirst : ∀ m, 1 ≤ m → m < n → a + m * us s.pacing.period ≤ s.now) :
    nextLocal s = a + n * us s.pacing.period := by
  have hcount : (s.now - a) / us s.pacing.period + 1 = n :=
    div_add_one_eq_of_first hn (Nat.sub_lt_left_of_lt_add ha hlt)
      fun m h1 hm => Nat.le_sub_of_add_le' (hfirst m h1 hm)
  simp only [nextLocal, sinceAnchor, hanchor, Option.getD_some, hcount]

/-! ## HALT (R119) -/

theorem haltRequest_of_listen (h : s.pacing.state = .listen) :
    haltRequest s = (s, refusedWith .wrongState 16) := by
  simp [haltRequest, h]

theorem haltRequest_of_halted (h : s.pacing.state = .halted) : haltRequest s = (s, doneWith 0 []) := by
  simp [haltRequest, h]

theorem haltRequest_of_paced (hl : s.pacing.state ≠ .listen) (hh : s.pacing.state ≠ .halted) :
    haltRequest s = (s.setPacing { s.pacing with haltPending := true }, doneWith 0 []) := by
  cases hs : s.pacing.state with
  | listen => exact absurd hs hl
  | halted => exact absurd hs hh
  | acquire | confirm | tracking | freewheel => simp [haltRequest, hs]

/-- A HALT taken with an empty holder gets its body's answer. -/
theorem exec_halt {s' : State} {a : Answer} (t : Nat) (tag : Byte) (h : s.mgmt.holder = none)
    (hb : haltRequest (arrive t s) = (s', a)) :
    exec (.halt t tag []) s = answered 0x30 tag a (arrive t s) s' :=
  takeRequest_of_empty (body := noArgs haltRequest []) 0x30 tag h hb

/-! ## STOP (R121) -/

theorem stopRequest_of_listen (h : s.pacing.state = .listen) :
    stopRequest s = (s, refusedWith .wrongState 16) := by
  simp [stopRequest, h]

theorem stopRequest_of_halted (h : s.pacing.state = .halted) : stopRequest s = (s, doneWith 0 []) := by
  simp [stopRequest, h]

theorem stopRequest_of_paced (hl : s.pacing.state ≠ .listen) (hh : s.pacing.state ≠ .halted) :
    stopRequest s =
      (enterHalted .stopRequest false (s.setPacing { s.pacing with localDue := nextLocal s }),
        doneWith 0 []) := by
  cases hs : s.pacing.state with
  | listen => exact absurd hs hl
  | halted => exact absurd hs hh
  | acquire | confirm | tracking | freewheel => simp [stopRequest, hs]

/-- A STOP taken with an empty holder gets its body's answer. -/
theorem exec_stop {s' : State} {a : Answer} (t : Nat) (tag : Byte) (h : s.mgmt.holder = none)
    (hb : stopRequest (arrive t s) = (s', a)) :
    exec (.stop t tag []) s = answered 0x31 tag a (arrive t s) s' :=
  takeRequest_of_empty (body := noArgs stopRequest []) 0x31 tag h hb

end Sys2Proof.Machine
end

section
/-! PROOF. HALT and STOP. -/

namespace Sys2Proof.Proofs

open Sys2Proof.Machine

/-- Settles O28: each pacing state is a lemma of its own; the local cycle-begin that STOP notes is the first
one later than its taking. -/
theorem haltAndStop : Obligations.HaltAndStop := by
  refine ⟨fun t tag s hs =>
    ⟨fun h => exec_halt t tag hs (haltRequest_of_listen (s := arrive t s) h),
      fun hl hh => exec_halt t tag hs (haltRequest_of_paced (s := arrive t s) hl hh),
      fun h => exec_halt t tag hs (haltRequest_of_halted (s := arrive t s) h)⟩,
    fun t tag s hs =>
    ⟨fun h => exec_stop t tag hs (stopRequest_of_listen (s := arrive t s) h),
      fun h => exec_stop t tag hs (stopRequest_of_halted (s := arrive t s) h), ?stops⟩⟩
  case stops =>
    rintro a n due hl hh hanchor - hn rfl hlt hfirst ha
    have body := stopRequest_of_paced (s := arrive t s) hl hh
    have hdue : nextLocal (arrive t s) = a + n * (25 * s.pacing.period) :=
      nextLocal_eq_of_first (s := arrive t s) hanchor hn ha hlt hfirst
    rw [hdue] at body
    exact exec_stop t tag hs body

end Sys2Proof.Proofs
end

section
/-! SUPPORT. DEMAND: each clamp by the range its argument lies in, and when a clamp changes its field. -/

namespace Sys2Proof.Machine

/-! ## The clamps of a DEMAND (R160) -/

/-- R160: a target speed below its range gives 0, one above gives 90,000. -/
theorem clampSpeed_eq (z : Int) :
    clampSpeed z = if z < 0 then 0 else if 90000 < z then 90000 else z.toNat := by
  unfold clampSpeed clampTo
  split_ifs <;> omega

/-- R160: a test mass below its range gives 500, one above gives 6,000. -/
theorem clampMass_eq (n : Nat) :
    clampMass n = if n < 500 then 500 else if 6000 < n then 6000 else n := by
  unfold clampMass
  split_ifs <;> omega

/-- The clamp changes exactly the target speeds out of range. -/
theorem clampSpeed_ne_iff {z : Int} : (clampSpeed z : Int) ≠ z ↔ z < 0 ∨ 90000 < z := by
  rw [clampSpeed_eq]
  split_ifs <;> omega

/-- The clamp changes exactly the test masses out of range. -/
theorem clampMass_ne_iff {n : Nat} : clampMass n ≠ n ↔ n < 500 ∨ 6000 < n := by
  rw [clampMass_eq]
  split_ifs <;> omega

/-- R160: the clamp notice is due where a numeric field is out of its range. -/
theorem demandClamped_eq (speed : Int) (mass : Nat) :
    demandClamped speed mass = (decide (speed < 0) || decide (90000 < speed)
      || decide (mass < 500) || decide (6000 < mass)) := by
  simp only [demandClamped, clampSpeed_ne_iff, clampMass_ne_iff, Bool.decide_or, Bool.or_assoc]

/-- A DEMAND is taken into the pending demand as it arrives. -/
theorem exec_demand (t : Nat) (mode : DriveMode) (speed : Int) (mass : Nat) (s : State) :
    exec (.demand t mode speed mass) s = .next (takeDemand mode speed mass (arrive t s)) := rfl

end Sys2Proof.Machine
end

section
/-! PROOF. DEMAND. -/

namespace Sys2Proof.Proofs

open Sys2Proof.Machine

/-- Settles O10: the arrival sets the receiver, and `takeDemand` the pending demand and the clamp notice, each
clamp by the range its field lies in. -/
theorem demandClamped : Obligations.DemandClamped := by
  intro t mode speed mass s
  rw [exec_demand, takeDemand, clampSpeed_eq, clampMass_eq, demandClamped_eq]
  simp only [← Bool.or_assoc]
  rfl

end Sys2Proof.Proofs
end

section
/-! SUPPORT. The part's own timer: the moment it finds is one that is due, and it finds one where any is. -/

namespace Sys2Proof.Machine

variable {s : State}

theorem mem_allSlots (gk : Seg × Fin 4) : gk ∈ allSlots := by
  obtain ⟨g, k⟩ := gk
  cases g <;> fin_cases k <;> decide

theorem closeDue_iff (g : Seg) (k : Fin 4) :
    closeDue s (g, k) = true ↔ IsDue s (.windowClose s.now g k) := by
  simp only [closeDue, IsDue]
  cases (s.slot g k).window <;> simp

theorem openDue_iff (g : Seg) (k : Fin 4) :
    openDue s (g, k) = true ↔ IsDue s (.windowOpen s.now g k) := by
  simp only [openDue, IsDue]
  cases (s.slot g k).window <;> simp

theorem syncIsDue_iff (g : Seg) : syncIsDue s g = true ↔ IsDue s (.syncDue s.now g) := by
  simp only [syncIsDue, IsDue]
  cases (s.seg g).pendingSync <;> simp

theorem pointDue_iff : pointDue s = true ↔ IsDue s (.computationPoint s.now) := by
  simp only [pointDue, IsDue]
  cases s.pacing.cpDue <;> simp

theorem transmitDue_iff : transmitDue s = true ↔ IsDue s (.transmitDone s.now) := by
  simp [transmitDue, IsDue]

theorem idleDue_iff : idleDue s = true ↔ IsDue s (.lineIdle s.now) := by
  simp [idleDue, IsDue, us]

theorem deadlineDue_some {c : Instr} (h : deadlineDue s = some c) : IsDue s c ∧ c.time = s.now := by
  have due {p : Prop} [Decidable p] {b : Instr} (hb : (if p then some b else none) = some c) : p ∧ b = c :=
    Option.ite_none_right_eq_some.1 hb |>.imp_right Option.some.inj
  unfold deadlineDue at h
  cases hs : s.pacing.state with
  | listen => simp [hs] at h
  | acquire | confirm =>
    rw [hs] at h
    obtain ⟨hd, rfl⟩ := due h
    exact ⟨⟨by simp [hs], hd⟩, rfl⟩
  | tracking | freewheel =>
    rw [hs] at h
    obtain ⟨hd, rfl⟩ := due h
    exact ⟨⟨by simp [hs], hd⟩, rfl⟩
  | halted =>
    rw [hs] at h
    obtain ⟨hd, rfl⟩ := due h
    exact ⟨⟨hs, hd⟩, rfl⟩

/-- What the timer finds is due, at the present time. -/
theorem nextDue_some {c : Instr} (h : nextDue s = some c) : IsDue s c ∧ c.time = s.now := by
  unfold nextDue at h
  split at h
  case isTrue ht => cases h; exact ⟨transmitDue_iff.1 ht, rfl⟩
  split at h
  case isTrue ht => cases h; exact ⟨idleDue_iff.1 ht, rfl⟩
  split at h
  case h_1 gk hf => cases h; exact ⟨(closeDue_iff _ _).1 (List.find?_some hf), rfl⟩
  split at h
  case h_1 gk hf => cases h; exact ⟨(openDue_iff _ _).1 (List.find?_some hf), rfl⟩
  split at h
  case h_1 g hf => cases h; exact ⟨(syncIsDue_iff _).1 (List.find?_some hf), rfl⟩
  split at h
  case isTrue ht => cases h; exact ⟨pointDue_iff.1 ht, rfl⟩
  exact deadlineDue_some h

theorem deadlineDue_of_silence {n : Nat} (h : IsDue s (.silence n)) :
    deadlineDue s = some (.silence s.now) := by
  obtain ⟨hst | hst, hdue⟩ := h <;> simp [deadlineDue, hst, silenceDue, us, hdue]

theorem deadlineDue_of_missedCycle {n : Nat} (h : IsDue s (.missedCycle n)) :
    deadlineDue s = some (.missedCycle s.now) := by
  obtain ⟨hst | hst, hdue⟩ := h <;> simp [deadlineDue, hst, missDue, us, hdue]

theorem deadlineDue_of_localCycleBegin {n : Nat} (h : IsDue s (.localCycleBegin n)) :
    deadlineDue s = some (.localCycleBegin s.now) := by
  obtain ⟨hst, hdue⟩ := h
  simp [deadlineDue, hst, hdue]

/-- Where the timer finds nothing, nothing is due. -/
theorem nextDue_none (h : nextDue s = none) (c : Instr) : ¬ IsDue s c := by
  unfold nextDue at h
  split at h <;> [cases h; rename_i htx]
  split at h <;> [cases h; rename_i hidle]
  split at h <;> [cases h; rename_i hclose]
  split at h <;> [cases h; rename_i hopen]
  split at h <;> [cases h; rename_i hsync]
  split at h <;> [cases h; rename_i hpoint]
  cases c with
  | transmitDone t => exact mt transmitDue_iff.2 htx
  | lineIdle t => exact mt idleDue_iff.2 hidle
  | windowClose t g k =>
    exact mt (closeDue_iff g k).2 (List.find?_eq_none.1 hclose _ (mem_allSlots _))
  | windowOpen t g k =>
    exact mt (openDue_iff g k).2 (List.find?_eq_none.1 hopen _ (mem_allSlots _))
  | syncDue t g =>
    exact mt (syncIsDue_iff g).2 (List.find?_eq_none.1 hsync _ (by cases g <;> decide))
  | computationPoint t => exact mt pointDue_iff.2 hpoint
  | silence t => exact fun hd => nomatch h.symm.trans (deadlineDue_of_silence hd)
  | missedCycle t => exact fun hd => nomatch h.symm.trans (deadlineDue_of_missedCycle hd)
  | localCycleBegin t => exact fun hd => nomatch h.symm.trans (deadlineDue_of_localCycleBegin hd)
  | _ => exact id

theorem step_of_empty (h : s.pending = []) : step s = .next (idle s) := by simp [step, h]

theorem step_of_cons {c : Instr} {rest : List Instr} (h : s.pending = c :: rest) :
    step s = exec c (s.setPending rest) := by simp [step, h]

end Sys2Proof.Machine
end

section
/-! PROOF. The queue, the clock and the reset. -/

namespace Sys2Proof.Proofs

open Sys2Proof.Machine

/-- Settles O1. -/
theorem stepTakesFront : Obligations.StepTakesFront := fun _ _ _ h => step_of_cons h

/-- Settles O2: the timer queues what `nextDue` finds, which is due, and finds something where anything is. -/
theorem stepWhenIdle : Obligations.StepWhenIdle := by
  intro s hs
  rw [step_of_empty hs, idle]
  refine ⟨fun hnone => ?_, fun c hc => ?_⟩
  · cases hd : nextDue s with
    | none => rfl
    | some d => exact absurd (nextDue_some hd).1 (hnone d)
  · cases hd : nextDue s with
    | none => exact absurd hc (nextDue_none hd c)
    | some d => exact ⟨d, (nextDue_some hd).1, (nextDue_some hd).2, rfl⟩

/-- Settles O3: every update of the part keeps the queue and the clock, but for the clock's own advance. -/
theorem everyCommandCompletes : Obligations.EveryCommandCompletes := by
  intro c s
  refine exec_keeps (P := fun u => u.pending = s.pending ∧ u.now = max s.now c.time) ?_ c ⟨rfl, rfl⟩
  have event (u : State) (b : EventBody) (h : u.pending = s.pending ∧ u.now = max s.now c.time) :
      (writeEvent b u).pending = s.pending ∧ (writeEvent b u).now = max s.now c.time := by
    rw [writeEvent_eq_setReport]
    exact h
  exact
    { port := fun _ _ h => h, pacing := fun _ _ h => h, segs := fun _ _ h => h,
      stations := fun _ _ h => h, demand := fun _ _ h => h, setpoints := fun _ _ h => h,
      directs := fun _ _ h => h, check := fun _ _ h => h, lastCheck := fun _ _ h => h,
      mgmt := fun _ _ h => h, free := fun _ _ h => h, event := event, latch := fun _ _ h => h,
      groups := fun _ _ h => h, store := fun _ _ h => h, report := fun _ _ h => h,
      restarted := fun _ h => h, hard := fun _ h => h }

/-- Settles O4: both records of reset values are those of the manual, by evaluation. -/
theorem hardReset : Obligations.HardReset := by
  refine ⟨fun t s => rfl, rfl, rfl, rfl, rfl, fun g => ?_, fun i => ?_, fun g => ?_, fun i => ?_,
    fun i => ?_, rfl, rfl, rfl, rfl, rfl, fun i => ?_, fun g => ?_, fun g k => ?_, rfl, fun e he => ?_⟩
  · cases g <;> rfl
  · fin_cases i <;> rfl
  · fin_cases g <;> rfl
  · fin_cases i <;> rfl
  · fin_cases i <;> rfl
  · fin_cases i <;> rfl
  · fin_cases g <;> rfl
  · cases g <;> fin_cases k <;> rfl
  · exact List.eq_of_mem_replicate he

end Sys2Proof.Proofs
end

section
/-! SUPPORT. Each invariant at reset: every record of the reset state by its reset values. -/

namespace Sys2Proof.Machine

@[simp] theorem reset_station (i : Fin 4) : State.reset.station i = StationRt.reset := by
  fin_cases i <;> rfl

@[simp] theorem reset_group (g : Fin 2) : State.reset.group g = GroupRt.reset := by
  fin_cases g <;> rfl

@[simp] theorem reset_seg (g : Fin 2) : State.reset.segs.get g = Segment.reset := by
  fin_cases g <;> rfl

@[simp] theorem reset_direct (i : Fin 4) : State.reset.direct i = Direct.reset := by
  fin_cases i <;> rfl

@[simp] theorem reset_setpoint (i : Fin 4) : State.reset.setpoints.get i = SetPoint.safe 0 := by
  fin_cases i <;> rfl

@[simp] theorem reset_stationRec (i : Fin 4) : State.reset.store.stations.get i = StationRec.reset := by
  fin_cases i <;> rfl

@[simp] theorem reset_groupRec (g : Fin 2) : State.reset.store.groups.get g = GroupRec.reset := by
  fin_cases g <;> rfl

@[simp] theorem reset_slotRec (g : Seg) (k : Fin 4) : State.reset.slotRec g k = SlotRec.reset := by
  cases g <;> fin_cases k <;> rfl

@[simp] theorem isMember_groupRec_reset (i : Fin 4) : isMember GroupRec.reset i = false := by
  fin_cases i <;> rfl

theorem groupBounded_reset (r : GroupRec) : GroupBounded r GroupRt.reset := by
  constructor <;> simp [GroupRt.reset]

theorem queueInOrder_reset : QueueInOrder State.reset := ⟨by decide, fun j e h => by cases h⟩

theorem runConsistent_reset : RunConsistent State.reset := by
  constructor
  · simp [engaged, GroupRt.reset, Direct.reset, SetPoint.safe]
  · simp [engaged, GroupRt.reset]
  · simp [Direct.reset]
  · exact fun h => absurd h Bool.false_ne_true

theorem storeConsistent_reset : StoreConsistent State.reset := by
  constructor
  · simp
  · simp [SlotRec.reset]
  · simp [StationRt.reset, StationRec.reset]
  · rfl

theorem limitsDerived_reset : LimitsDerived State.reset := fun i => by
  simp [StationRt.reset, StationRec.reset, torqueLimitOf, overspeedLimitOf]

theorem speedsBounded_reset : SpeedsBounded State.reset := by
  have fits : demandFits 0 1500 := by unfold demandFits; decide
  refine ⟨?_, ?_, ?_, ?_, ?_, ?_, ?_, ?_, fits, fits⟩ <;>
    simp [StationRt.reset, GroupRt.reset, ringFits]

theorem countersSaturate_reset : CountersSaturate State.reset := by
  refine ⟨by decide, by decide, fun g => ?_, fun i => ?_, by decide, fun g => ?_, by decide, by decide⟩ <;>
    simp [StationRt.reset, GroupRt.reset, Segment.reset, SlotRt.reset]

end Sys2Proof.Machine
end

section
/-! PROOF. The invariants at reset. -/

namespace Sys2Proof.Proofs

open Sys2Proof.Machine

/-- Settles O5. -/
theorem resetIsSafe : Obligations.ResetIsSafe where
  queue := queueInOrder_reset
  groups := fun g => by simpa using groupBounded_reset _
  entries := by simp [SafeEntries, SetPoint.safe]
  run := runConsistent_reset
  store := storeConsistent_reset
  limits := limitsDerived_reset
  speeds := speedsBounded_reset
  counters := countersSaturate_reset

end Sys2Proof.Proofs
end

section
/-! SUPPORT. The cell link: what the link check makes of bytes, the command a frame is, and the receiver, byte
by byte. -/

namespace Sys2Proof.Machine

variable {s : State}

/-! ## The link check (R157, R195, R198) -/

/-- R157: a frame whose CRC holds is judged by its kind and its payload. -/
theorem judge_of_crc {kind length : Byte} {payload crc : List Byte} (hcrc : crc.length = 2)
    (h : beNat crc = (crc16 (kind :: length :: payload)).toNat) :
    judge (kind :: length :: payload ++ crc) = payloadFrame kind payload := by
  have hlen : (kind :: length :: payload ++ crc).length - 2 = (kind :: length :: payload).length := by
    simp [hcrc]
  simp only [judge, hlen, List.take_left, List.drop_left, h, ne_eq, not_true, if_false]

theorem judge_of_bad_crc {kind length : Byte} {payload crc : List Byte} (hcrc : crc.length = 2)
    (h : beNat crc ≠ (crc16 (kind :: length :: payload)).toNat) :
    judge (kind :: length :: payload ++ crc) = .bad := by
  have hlen : (kind :: length :: payload ++ crc).length - 2 = (kind :: length :: payload).length := by
    simp [hcrc]
  simp only [judge, hlen, List.take_left, List.drop_left, if_pos h]

theorem beNat_pair (high low : Byte) : beNat [high, low] = high.toNat * 256 + low.toNat := by
  simp [beNat]

/-- R157, R195: a frame as it is sent passes the CRC check. -/
theorem judge_frameBody (kind : Byte) (payload : List Byte) :
    judge (frameBody kind payload) = payloadFrame kind payload := by
  refine judge_of_crc (beBytes_length _ _) ?_
  rw [beNat_beBytes]
  exact Nat.mod_eq_of_lt (BitVec.isLt _)

theorem payloadFrame_of_start {i : Byte} (h : i.toNat ≤ 63) :
    payloadFrame 0x01 [i] = .start (BitVec.ofNat 6 i.toNat) := if_pos h

theorem payloadFrame_of_demand (payload : List Byte) : payloadFrame 0x02 payload = demandFrame payload :=
  rfl

theorem payloadFrame_of_request (code tag : Byte) (args : List Byte) :
    payloadFrame 0x03 (code :: tag :: args) = .request code tag args := rfl

theorem payloadFrame_start (payload : List Byte) :
    payloadFrame 0x01 payload = .bad ↔ payload.length ≠ 1 ∨ 63 < (payload.headD 0).toNat := by
  match payload with
  | [] => simp [payloadFrame]
  | [i] => by_cases h : i.toNat ≤ 63 <;> simp [payloadFrame, h] <;> omega
  | _ :: _ :: _ => simp [payloadFrame]

theorem payloadFrame_request (payload : List Byte) :
    payloadFrame 0x03 payload = .bad ↔ payload.length < 2 := by
  match payload with
  | [] => simp [payloadFrame]
  | [_] => simp [payloadFrame]
  | _ :: _ :: _ => simp [payloadFrame]

/-- R157, R195: a DEMAND's payload is seven bytes, the first a mode code. -/
theorem payloadFrame_demand (payload : List Byte) :
    payloadFrame 0x02 payload = .bad ↔ payload.length ≠ 7 ∨ 2 < (payload.headD 0).toNat := by
  rw [payloadFrame_of_demand, demandFrame]
  have hsome := splitFields_isSome [1, 4, 2] payload
  cases hf : splitFields [1, 4, 2] payload with
  | none => simp_all
  | some fields =>
    have hlen : payload.length = 7 := by simpa [hf] using hsome
    match payload, hlen with
    | b :: rest, hlen =>
      have hshort : ¬ (b :: rest).length < 1 := by simp
      rw [splitFields, if_neg hshort] at hf
      obtain ⟨fields', hf', rfl⟩ := Option.map_eq_some_iff.1 hf
      have hb : beNat ((b :: rest).take 1) = b.toNat := by simp [beNat]
      obtain ⟨v, w, rfl⟩ := List.length_eq_two.1 (splitFields_length _ _ _ hf')
      rw [hb]
      split <;> simp_all <;> omega

theorem payloadFrame_of_no_kind {kind : Byte} (payload : List Byte) (h1 : kind ≠ 0x01)
    (h2 : kind ≠ 0x02) (h3 : kind ≠ 0x03) : payloadFrame kind payload = .bad := by
  unfold payloadFrame
  rw [if_neg h1, if_neg h2, if_neg h3]

/-- R157, checks 2 to 4. -/
theorem payloadFrame_bad_iff (kind : Byte) (payload : List Byte) :
    payloadFrame kind payload = .bad ↔
      (kind ≠ 0x01 ∧ kind ≠ 0x02 ∧ kind ≠ 0x03) ∨ (kind = 0x01 ∧ payload.length ≠ 1) ∨
      (kind = 0x02 ∧ payload.length ≠ 7) ∨ (kind = 0x03 ∧ payload.length < 2) ∨
      (kind = 0x01 ∧ 63 < (payload.headD 0).toNat) ∨ (kind = 0x02 ∧ 2 < (payload.headD 0).toNat) := by
  by_cases h1 : kind = 0x01
  · subst h1; rw [payloadFrame_start]; simp
  · by_cases h2 : kind = 0x02
    · subst h2; rw [payloadFrame_demand]; simp
    · by_cases h3 : kind = 0x03
      · subst h3; rw [payloadFrame_request]; simp
      · exact iff_of_true (payloadFrame_of_no_kind payload h1 h2 h3) (.inl ⟨h1, h2, h3⟩)

/-! ## The command that a frame is -/

/-- R162, R198: the command of a request's code takes that code's body. -/
theorem exec_requestCommand (t : Nat) (code tag : Byte) (args : List Byte) (s : State) :
    exec (requestCommand t code tag args) s
      = .next (takeRequest code tag (requestBody code args) (arrive t s)) := by
  unfold requestCommand
  split
  case h_22 =>
    have hbody : requestBody code args = unknownRequest := by
      unfold requestBody
      split <;> first | contradiction | rfl
    rw [hbody]
    rfl
  all_goals
    rename_i hcode
    have he : code = BitVec.ofNat 8 code.toNat := by simp
    rw [hcode] at he
    subst he
    rfl

/-- R157, R159, R160, R162: the command of a frame that arrives takes the frame. -/
theorem exec_command (f : Frame) (t : Nat) (s : State) :
    exec (f.command t) s = .next (takeFrame f (arrive t s)) := by
  cases f with
  | request code tag args => exact exec_requestCommand t code tag args s
  | _ => rfl

/-! ## A command's own frame (R195, R198) -/

theorem driveModeCode_le (mode : DriveMode) : driveModeCode mode ≤ 2 := by cases mode <;> decide

/-- R195: a DEMAND's payload reads back. -/
theorem demandFrame_payload {mode : DriveMode} {speed : Int} {mass : Nat}
    (hlo : -2147483648 ≤ speed) (hhi : speed ≤ 2147483647) (hmass : mass ≤ 65535) :
    demandFrame (beBytes 1 (driveModeCode mode) ++ beInt 4 speed ++ beBytes 2 mass)
      = .demand mode speed mass := by
  have hspeed := signedField_beInt 4 speed (by norm_num; omega) (by norm_num; omega)
  have hfields : splitFields [1, 4, 2] (beBytes 1 (driveModeCode mode) ++ beInt 4 speed ++ beBytes 2 mass)
      = some [driveModeCode mode, beNat (beInt 4 speed), mass] := by
    have hm := driveModeCode_le mode
    rw [List.append_assoc, splitFields_beBytes, beInt, splitFields_beBytes,
      ← List.append_nil (beBytes 2 mass), splitFields_beBytes, beNat_beBytes]
    simp [splitFields]
    omega
  rw [demandFrame, hfields]
  cases mode <;> simp [driveModeCode, hspeed]

/-- R198: the command of a request's own code, tag and arguments. -/
theorem requestCommand_request {c : Instr} {code tag : Byte} {args : List Byte} (hw : c.wf = true)
    (hc : c.request? = some (code, tag, args)) : requestCommand c.time code tag args = c := by
  cases c with
  | unknown t code' tag' args' =>
    simp only [Instr.request?, Option.some.injEq, Prod.mk.injEq] at hc
    obtain ⟨rfl, rfl, rfl⟩ := hc
    have hm : ¬ code' ∈ requestCodes := by
      simp only [Instr.wf, Bool.and_eq_true, Bool.not_eq_true', List.contains_eq_mem,
        decide_eq_false_iff_not] at hw
      exact hw.1
    unfold requestCommand
    split
    case h_22 => rfl
    all_goals
      rename_i hcode
      have he : code' = BitVec.ofNat 8 code'.toNat := by simp
      rw [hcode] at he
      exact absurd (by rw [he]; decide) hm
  | _ =>
    first
      | (simp only [Instr.request?, Option.some.injEq, Prod.mk.injEq] at hc
         obtain ⟨rfl, rfl, rfl⟩ := hc
         rfl)
      | exact absurd hc (by simp [Instr.request?])

/-- R157, R195, R198: the payload by which a command arrives is read as the command. -/
theorem payloadFrame_framePayload {c : Instr} {kind : Byte} {payload : List Byte} (hw : c.wf = true)
    (h : framePayload c = some (kind, payload)) : (payloadFrame kind payload).command c.time = c := by
  have request {code tag : Byte} {args : List Byte} (hc : c.request? = some (code, tag, args)) :
      (payloadFrame 0x03 (code :: tag :: args)).command c.time = c := by
    rw [payloadFrame_of_request]
    exact requestCommand_request hw hc
  cases c with
  | start t index =>
    simp only [framePayload, Option.some.injEq, Prod.mk.injEq] at h
    obtain ⟨rfl, rfl⟩ := h
    have hlt := index.isLt
    have h8 : (BitVec.ofNat 8 index.toNat).toNat = index.toNat := by
      rw [BitVec.toNat_ofNat]; omega
    rw [payloadFrame_of_start (by omega), h8, BitVec.ofNat_toNat, BitVec.setWidth_eq]
    rfl
  | demand t mode speed mass =>
    simp only [framePayload, Option.some.injEq, Prod.mk.injEq] at h
    obtain ⟨rfl, rfl⟩ := h
    simp only [Instr.wf, fitsSigned32, Bool.and_eq_true, decide_eq_true_eq] at hw
    obtain ⟨⟨hlo, hhi⟩, hmass⟩ := hw
    rw [payloadFrame_of_demand, demandFrame_payload hlo hhi hmass]
    rfl
  | _ =>
    simp only [framePayload, Option.map_eq_some_iff, Prod.mk.injEq] at h
    obtain ⟨⟨code, tag, args⟩, hc, rfl, rfl⟩ := h
    exact request hc

theorem judge_frameBytes {c : Instr} {bytes : List Byte} (hw : c.wf = true)
    (h : frameBytes c = some bytes) : (judge bytes).command c.time = c := by
  simp only [frameBytes, Option.map_eq_some_iff] at h
  obtain ⟨⟨kind, payload⟩, hp, rfl⟩ := h
  rw [judge_frameBody]
  exact payloadFrame_framePayload hw hp

theorem request_args_length {c : Instr} {code tag : Byte} {args : List Byte} (hw : c.wf = true)
    (hc : c.request? = some (code, tag, args)) : args.length ≤ 198 := by
  cases c <;> simp only [Instr.request?, Option.some.injEq, Prod.mk.injEq, reduceCtorEq] at hc <;>
    obtain ⟨-, -, rfl⟩ := hc <;> simp_all [Instr.wf, fitsRequest]

/-- R195: a payload has at most 200 bytes. -/
theorem framePayload_length {c : Instr} {kind : Byte} {payload : List Byte} (hw : c.wf = true)
    (h : framePayload c = some (kind, payload)) : payload.length ≤ 200 := by
  cases c with
  | start t index =>
    simp only [framePayload, Option.some.injEq, Prod.mk.injEq] at h
    simp [← h.2]
  | demand t mode speed mass =>
    simp only [framePayload, Option.some.injEq, Prod.mk.injEq] at h
    simp [← h.2, beInt]
  | _ =>
    simp only [framePayload, Option.map_eq_some_iff, Prod.mk.injEq] at h
    obtain ⟨⟨code, tag, args⟩, hc, rfl, rfl⟩ := h
    have := request_args_length hw hc
    simp only [List.length_cons]
    omega

/-! ## The receiver, byte by byte (R156) -/

theorem receiveByte_of_waiting (b : Byte) (h : s.port.rx = .idleWait ∨ s.port.rx = .discard) :
    receiveByte b s = s.setPort { s.port with quietSince := s.now } := by
  rcases h with h | h <;> simp [receiveByte, h]

theorem receiveByte_of_ready (b : Byte) (h : s.port.rx = .ready) :
    receiveByte b s = s.setPort { s.port with
      quietSince := s.now, rx := if b = startDelimiter then .inFrame else .discard, burst := [] } := by
  simp [receiveByte, h, receiver, State.setPort]

section InFrame

variable {b : Byte} (h : s.port.rx = .inFrame)
include h

theorem receiveByte_of_long (hlong : lengthTooLong (s.port.burst ++ [b]) = true) :
    receiveByte b s = s.setPort { s.port with quietSince := s.now, rx := .discard, burst := [] } := by
  simp [receiveByte, h, frameByte, hlong, receiver, State.setPort]

variable (hshort : lengthTooLong (s.port.burst ++ [b]) = false)
include hshort

theorem receiveByte_of_incomplete (hmore : frameComplete (s.port.burst ++ [b]) = false) :
    receiveByte b s =
      s.setPort { s.port with quietSince := s.now, burst := s.port.burst ++ [b] } := by
  simp [receiveByte, h, frameByte, hshort, hmore, State.setPort]

/-- R156, R157: the last CRC byte of a frame is the frame's arrival. -/
theorem receiveByte_of_complete (hdone : frameComplete (s.port.burst ++ [b]) = true) :
    receiveByte b s = takeFrame (judge (s.port.burst ++ [b])) (frameArrived s) := by
  simp [receiveByte, h, frameByte, hshort, hdone, frameArrived, State.setPort]

end InFrame

theorem lengthTooLong_pair (kind length : Byte) :
    lengthTooLong [kind, length] = decide (200 < length.toNat) := rfl

theorem lengthTooLong_of_length {burst : List Byte} (h : burst.length ≠ 2) :
    lengthTooLong burst = false := by
  match burst with
  | [] | [_] | _ :: _ :: _ :: _ => rfl
  | [_, _] => exact absurd rfl h

theorem frameComplete_of_short {burst : List Byte} (h : burst.length ≤ 2) :
    frameComplete burst = false := by
  match burst with
  | [] | [_] => rfl
  | [_, length] => simp [frameComplete]
  | _ :: _ :: _ :: _ => simp at h

theorem frameComplete_cons_cons (kind length : Byte) (rest : List Byte) :
    frameComplete (kind :: length :: rest) = decide (rest.length = length.toNat + 2) := rfl

/-- What `receiveByte` says of a byte is what its command does. -/
theorem exec_byte (t : Nat) (b : Byte) (s : State) :
    exec (.cellLinkByteReceived t b) s = .next (receiveByte b (advance t s)) := rfl

/-- A frame that the last byte of a burst completes is taken as the command it is. -/
theorem exec_byte_of_complete {t : Nat} {b : Byte} (h : s.port.rx = .inFrame)
    (hshort : lengthTooLong (s.port.burst ++ [b]) = false)
    (hdone : frameComplete (s.port.burst ++ [b]) = true) :
    exec (.cellLinkByteReceived t b) s = exec ((judge (s.port.burst ++ [b])).command t) s := by
  rw [exec_byte, receiveByte_of_complete (s := advance t s) h hshort hdone, exec_command]
  rfl

/-! ## A frame's bytes one after another -/

/-- `u` is `s` with `burst` in the receiver, at a time that the command at `t` comes after. -/
def Receiving (t : Nat) (burst : List Byte) (s u : State) : Prop :=
  u.port.rx = .inFrame ∧ u.port.burst = burst ∧ arrive t u = arrive t s

/-- A frame's bytes but the last are gathered. -/
theorem runAll_gather {t : Nat} {k l : Byte} {rest : List Byte} (hl : l.toNat ≤ 200)
    (hlen : rest.length < l.toNat + 2) (bytes before : List Byte) (hsplit : before ++ bytes = k :: l :: rest)
    (times : List Nat) (htimes : times.length = bytes.length) (hle : ∀ u ∈ times, u ≤ t)
    (tail : List Instr) (s u : State) (hu : Receiving t before s u) :
    ∃ v, Receiving t (k :: l :: rest) s v ∧
      runAll (List.zipWith Instr.cellLinkByteReceived times bytes ++ tail) u = runAll tail v := by
  induction bytes generalizing before times u with
  | nil =>
    obtain rfl : before = k :: l :: rest := by simpa using hsplit
    obtain rfl : times = [] := List.length_eq_zero_iff.1 htimes
    exact ⟨u, hu, rfl⟩
  | cons b bytes ih =>
    obtain ⟨hrx, hburst, harr⟩ := hu
    match times, htimes with
    | t' :: times, htimes =>
      have ht' : t' ≤ t := hle t' List.mem_cons_self
      have hbefore : before ++ [b] ++ bytes = k :: l :: rest := by simpa using hsplit
      have hshort : lengthTooLong (before ++ [b]) = false := by
        by_cases h2 : (before ++ [b]).length = 2
        · obtain ⟨x, y, hxy⟩ := List.length_eq_two.1 h2
          rw [hxy] at hbefore ⊢
          simp only [List.cons_append, List.nil_append, List.cons.injEq] at hbefore
          obtain ⟨-, rfl, -⟩ := hbefore
          simpa [lengthTooLong_pair] using hl
        · exact lengthTooLong_of_length h2
      have hmore : frameComplete (before ++ [b]) = false := by
        by_cases h2 : (before ++ [b]).length ≤ 2
        · exact frameComplete_of_short h2
        · match hxs : before ++ [b] with
          | [] | [_] => simp [hxs] at h2
          | x :: y :: zs =>
            rw [hxs] at hbefore
            simp only [List.cons_append, List.cons.injEq] at hbefore
            obtain ⟨-, rfl, hzs⟩ := hbefore
            have := congrArg List.length hzs
            rw [List.length_append] at this
            rw [frameComplete_cons_cons, decide_eq_false_iff_not]
            omega
      have hstep := receiveByte_of_incomplete (s := advance t' u) hrx (b := b)
        (by rw [show (advance t' u).port.burst = before from hburst]; exact hshort)
        (by rw [show (advance t' u).port.burst = before from hburst]; exact hmore)
      obtain ⟨v, hv, hrun⟩ := ih (before ++ [b]) hbefore times (by simpa using htimes)
        (fun x hx => hle x (List.mem_cons_of_mem _ hx)) (receiveByte b (advance t' u)) (by
          rw [hstep]
          refine ⟨hrx, congrArg (· ++ [b]) hburst, Eq.trans ?_ harr⟩
          have hnow : max (max u.now t') t = max u.now t := by omega
          simp [arrive, frameArrived, advance, State.setPort, State.setNow, hnow])
      refine ⟨v, hv, Eq.trans ?_ hrun⟩
      simp [runAll, exec_byte]

end Sys2Proof.Machine
end

section
/-! PROOF. The link check. -/

namespace Sys2Proof.Proofs

open Sys2Proof.Machine

/-- Settles O8. -/
theorem frameRoundTrip : Obligations.FrameRoundTrip := fun _ _ hw h => judge_frameBytes hw h

/-- Settles O9: the four checks are those of `judge` and `payloadFrame`; a link check error counts and
latches. -/
theorem linkCheck : Obligations.LinkCheck := by
  refine ⟨fun kind length high low payload => ⟨fun hcrc => ?_, fun hcrc => ?_⟩, fun t s =>
    ⟨rfl, fun h => ?_, fun h => ?_⟩⟩
  · exact judge_of_bad_crc rfl (by rw [beNat_pair]; exact hcrc)
  · have hjudge := judge_of_crc (kind := kind) (length := length) (payload := payload)
      (crc := [high, low]) rfl (by rw [beNat_pair]; exact hcrc)
    exact hjudge ▸ payloadFrame_bad_iff kind payload
  · have hidle : lineFallsIdle (advance t s) = receiver .ready (advance t s) := by
      rcases h with h | h <;> simp [lineFallsIdle, advance, h]
    exact congrArg Host.Outcome.next hidle
  · have hidle : lineFallsIdle (advance t s) = linkError (receiver .ready (advance t s)) := by
      rcases h with h | h <;> simp [lineFallsIdle, advance, h]
    exact congrArg Host.Outcome.next hidle

/-- Settles O6: each receiver state is a lemma of its own. -/
theorem bytesReceived : Obligations.BytesReceived := by
  intro t b s
  have incomplete {h : s.port.rx = .inFrame} (hshort : lengthTooLong (s.port.burst ++ [b]) = false)
      (hmore : frameComplete (s.port.burst ++ [b]) = false) :
      exec (.cellLinkByteReceived t b) s = .next { s with
        now := max s.now t,
        port := { s.port with quietSince := max s.now t, burst := s.port.burst ++ [b] } } :=
    congrArg Host.Outcome.next (receiveByte_of_incomplete (s := advance t s) h hshort hmore)
  refine ⟨fun h => ?_, fun h => ?_, fun kind h hk hb => ?_, fun h hcase => ?_,
    fun kind length rest h hburst hlen => ?_⟩
  · exact congrArg Host.Outcome.next (receiveByte_of_waiting (s := advance t s) b h)
  · exact congrArg Host.Outcome.next (receiveByte_of_ready (s := advance t s) b h)
  · refine congrArg Host.Outcome.next (receiveByte_of_long (s := advance t s) h ?_)
    change lengthTooLong (s.port.burst ++ [b]) = true
    simpa [hk, lengthTooLong_pair] using hb
  · rcases hcase with hk | ⟨kind, hk, hb⟩ | ⟨kind, length, rest, hk, hlen⟩
    · exact incomplete (h := h) (by rw [hk]; rfl) (by rw [hk]; rfl)
    · exact incomplete (h := h) (by simpa [hk, lengthTooLong_pair] using hb)
        (frameComplete_of_short (by simp [hk]))
    · refine incomplete (h := h) (lengthTooLong_of_length (by simp [hk])) ?_
      simp only [hk, List.cons_append, frameComplete_cons_cons, List.length_append, List.length_singleton,
        decide_eq_false_iff_not]
      omega
  · refine exec_byte_of_complete h (lengthTooLong_of_length (by simp [hburst])) ?_
    simp only [hburst, List.cons_append, frameComplete_cons_cons, List.length_append,
      List.length_singleton, decide_eq_true_eq]
    omega

/-- Settles O7: the receiver gathers the frame's bytes but the last, which is the arrival of the command the
link check reads back. -/
theorem bytesMakeFrame : Obligations.BytesMakeFrame := by
  intro i bytes times s hw hframe hready htimes hle
  have hjudge := judge_frameBytes hw hframe
  simp only [frameBytes, Option.map_eq_some_iff] at hframe
  obtain ⟨⟨kind, payload⟩, hp, rfl⟩ := hframe
  have hpay := framePayload_length hw hp
  have hlenb : (BitVec.ofNat 8 payload.length).toNat = payload.length := by
    rw [BitVec.toNat_ofNat]; omega
  obtain ⟨high, low, hcrc⟩ := List.length_eq_two.1
    (beBytes_length 2 (crc16 (kind :: BitVec.ofNat 8 payload.length :: payload)).toNat)
  have hbody : frameBody kind payload
      = kind :: BitVec.ofNat 8 payload.length :: (payload ++ [high]) ++ [low] := by
    simp [frameBody, hcrc]
  rw [hbody] at hjudge htimes ⊢
  match times, htimes with
  | t0 :: times, htimes =>
    have ht0 : t0 ≤ i.time := hle t0 List.mem_cons_self
    have hfirst := receiveByte_of_ready (s := advance t0 s) startDelimiter hready
    obtain ⟨v, ⟨hrx, hburst, harr⟩, hrun⟩ := runAll_gather (t := i.time) (k := kind)
      (l := BitVec.ofNat 8 payload.length) (rest := payload ++ [high]) (by omega)
      (by rw [List.length_append, List.length_singleton]; omega) _ [] rfl times
      (by simpa using htimes) (fun u hu => hle u (List.mem_cons_of_mem _ hu))
      [.cellLinkByteReceived i.time low] s (receiveByte startDelimiter (advance t0 s)) (by
        rw [hfirst]
        refine ⟨rfl, rfl, ?_⟩
        have hnow : max (max s.now t0) i.time = max s.now i.time := by omega
        simp [arrive, frameArrived, advance, State.setPort, State.setNow, hnow])
    have hzip : List.zipWith Instr.cellLinkByteReceived (t0 :: times ++ [i.time])
        (0x7E :: (kind :: BitVec.ofNat 8 payload.length :: (payload ++ [high]) ++ [low]))
        = .cellLinkByteReceived t0 startDelimiter ::
          (List.zipWith Instr.cellLinkByteReceived times
              (kind :: BitVec.ofNat 8 payload.length :: (payload ++ [high]))
            ++ [.cellLinkByteReceived i.time low]) := by
      rw [List.cons_append, List.zipWith_cons_cons, List.zipWith_append (by simpa using htimes)]
      rfl
    have hlast : exec (.cellLinkByteReceived i.time low) v = exec i s := by
      rw [exec_byte_of_complete hrx
        (by rw [hburst]; exact lengthTooLong_of_length (by simp))
        (by
          rw [hburst]
          simp only [List.cons_append, frameComplete_cons_cons, List.length_append,
            List.length_singleton, decide_eq_true_eq]
          omega),
        exec_command, hburst, harr, ← exec_command, hjudge]
    rw [hzip, runAll, exec_byte]
    dsimp only
    rw [hrun, runAll, hlast]
    cases hx : exec i s <;> rfl

end Sys2Proof.Proofs
end

section
/-! SUPPORT. Replies and the UPLINK's sending: where a reply waits, the fields of the status header, and the
slots that a per-cycle UPLINK empties. -/

namespace Sys2Proof.Machine

variable {s : State}

/-! ## Where a reply waits (R165, R169) -/

theorem beforeCycles_iff : beforeCycles s = true ↔
    s.pacing.state = .listen ∨ s.pacing.state = .acquire ∨ s.pacing.state = .confirm := by
  simp [beforeCycles, or_assoc]

theorem beforeCycles_of_running (h : s.pacing.state = .tracking ∨ s.pacing.state = .freewheel ∨
    s.pacing.state = .halted) : beforeCycles s = false := by
  rcases h with h | h | h <;> simp [beforeCycles, h]

theorem placeReply_of_running (r : Reply) (h : beforeCycles s = false) :
    placeReply r s = s.setMgmt { s.mgmt with holder := some r } := if_neg (by
  change ¬ beforeCycles s = true
  simp [h])

theorem placeReply_of_sending (r : Reply) (h : beforeCycles s = true) (hs : s.port.tx.sending = true) :
    placeReply r s = (s.setMgmt { s.mgmt with holder := some r }).setPort
      { s.port with replyOwed := true } := by
  have hb : beforeCycles (s.setMgmt { s.mgmt with holder := some r }) = true := h
  simp [placeReply, hb, hs]

theorem placeReply_of_idle (r : Reply) (h : beforeCycles s = true) (hs : s.port.tx.sending = false) :
    placeReply r s = immediateUplink ((s.setMgmt { s.mgmt with holder := some r }).setPort
      { s.port with replyOwed := true }) := by
  have hb : beforeCycles (s.setMgmt { s.mgmt with holder := some r }) = true := h
  simp [placeReply, hb, hs]

/-- R165: the state that an UPLINK's last CRC byte leaves behind. -/
theorem transmitEnds_of_sending (hs : s.port.tx.sending = true) :
    transmitEnds s =
      sendOwed (s.setPort { s.port with tx := { s.port.tx with sending := false, frame := [] } }) :=
  if_pos hs

theorem sendOwed_of_not_owed (h : s.port.replyOwed = false) : sendOwed s = s := by simp [sendOwed, h]

theorem sendOwed_of_running (h : s.port.replyOwed = true) (hb : beforeCycles s = false) :
    sendOwed s = s.setPort { s.port with replyOwed := false } := by simp [sendOwed, h, hb]

theorem sendOwed_of_before (h : s.port.replyOwed = true) (hb : beforeCycles s = true) :
    sendOwed s = immediateUplink s := by simp [sendOwed, h, hb]

/-! ## The status header (R185, R190, R199) -/

theorem pacingStateCode_eq (x : PacingState) : pacingStateCode x = codeIn pacingOrder x := by
  cases x <;> rfl

theorem groupStateCode_eq (x : GroupState) : groupStateCode x = codeIn groupOrder x := by
  cases x <;> rfl

theorem pacingStateCode_lt (x : PacingState) : pacingStateCode x < 8 := by cases x <;> decide

theorem groupStateCode_lt (x : GroupState) : groupStateCode x < 8 := by cases x <;> decide

theorem modeCode_eq (x : Mode) : modeCode x = (decide (x = .operate)).toNat := by cases x <;> rfl

theorem headerBit_eq (n : Nat) (b : Bool) : headerBit n b = b.toNat * 2 ^ n := by
  cases b <;> simp [headerBit]

/-- A set of flags is not empty where one of its bits is set. -/
theorem bitVec_bne_zero_iff {w : Nat} (x : BitVec w) : (x != 0) = true ↔ ∃ b < w, x.getLsbD b = true := by
  rw [bne_iff_ne, ne_eq, not_iff_comm]
  push Not
  constructor
  · exact fun h => BitVec.eq_of_getLsbD_eq fun i hi => by simpa using h i hi
  · rintro rfl
    simp

/-- R199: the status header as the sum of its fields, each in its place. -/
theorem statusHeader_eq (s : State) : statusHeader s =
    pacingStateCode s.pacing.state * 2 ^ 29 + (decide (s.mgmt.mode = .operate)).toNat * 2 ^ 28
      + s.pacing.haltPending.toNat * 2 ^ 27 + (attention s).toNat * 2 ^ 26 + (anyFault s).toNat * 2 ^ 25
      + (isLatched .eventOverrun s).toNat * 2 ^ 24 + s.report.queue.length * 2 ^ 18
      + s.mgmt.droppedNotice.toNat * 2 ^ 17 + s.port.clampNotice.toNat * 2 ^ 16
      + (decide (0 < s.demand.age)).toNat * 2 ^ 15 + s.check.running.toNat * 2 ^ 14
      + groupStateCode (s.group 0).state * 2 ^ 11 + groupStateCode (s.group 1).state * 2 ^ 8 := by
  simp only [statusHeader, headerBit_eq, modeCode_eq]

theorem testBit_eq_of_div_mod {h n : Nat} {b : Bool} (hb : h / 2 ^ n % 2 = b.toNat) : h.testBit n = b := by
  rw [Nat.testBit_eq_decide_div_mod_eq, hb]
  cases b <;> rfl

/-! ## The slots that a per-cycle UPLINK empties (R189) -/

/-- A SLOT item names the slot. -/
def NamedBy (items : List (ItemKind × Nat)) (g : Seg) (k : Fin 4) : Prop :=
  ∃ n, (ItemKind.slot, n) ∈ items ∧ slotOfOperand n = (g, k)

theorem namedBy_cons {kind : ItemKind} {n : Nat} {items : List (ItemKind × Nat)} {g : Seg} {k : Fin 4} :
    NamedBy ((kind, n) :: items) g k ↔ (kind = .slot ∧ slotOfOperand n = (g, k)) ∨ NamedBy items g k := by
  constructor
  · rintro ⟨m, hm, hmk⟩
    rcases List.mem_cons.1 hm with hm | hm
    · cases hm
      exact .inl ⟨rfl, hmk⟩
    · exact .inr ⟨m, hm, hmk⟩
  · rintro (⟨rfl, h⟩ | ⟨m, hm, hmk⟩)
    · exact ⟨n, List.mem_cons_self, h⟩
    · exact ⟨m, List.mem_cons_of_mem _ hm, hmk⟩

theorem slot_setSlot (s : State) (g g' : Seg) (k k' : Fin 4) (x : SlotRt) :
    (s.setSlot g k x).slot g' k' = if g' = g ∧ k' = k then x else s.slot g' k' := by
  by_cases hg : g' = g
  · subst hg
    by_cases hk : k' = k <;> simp [State.setSlot, State.setSeg, State.slot, State.seg, hk]
  · simp [State.setSlot, State.setSeg, State.slot, State.seg, hg]

theorem seg_setSlot (s : State) (g g' : Seg) (k : Fin 4) (x : SlotRt) :
    (s.setSlot g k x).seg g' = { s.seg g' with slots := ((s.setSlot g k x).seg g').slots } := by
  by_cases hg : g' = g <;> simp [State.setSlot, State.setSeg, State.seg, hg]

/-- `t` is `s` with some slots' buffers changed. -/
def BuffersOnly (s t : State) : Prop :=
  t = s.setSegs t.segs ∧ ∀ g : Seg, t.seg g = { s.seg g with slots := (t.seg g).slots } ∧
    ∀ k, t.slot g k = { s.slot g k with buffer := (t.slot g k).buffer }

theorem buffersOnly_emptyReported (items : List (ItemKind × Nat)) (s : State) :
    BuffersOnly s (emptyReported items s) := by
  refine foldl_invariant (BuffersOnly s) _ ?_ items s ⟨rfl, fun g => ⟨rfl, fun k => rfl⟩⟩
  intro t item ht
  split
  · obtain ⟨hs, hsegs⟩ := ht
    refine ⟨by rw [hs]; rfl, fun g => ⟨?_, fun k => ?_⟩⟩
    · rw [seg_setSlot, (hsegs g).1]
    · rw [slot_setSlot]
      split
      case isTrue h => rw [← h.1, ← h.2, (hsegs g).2 k]
      case isFalse h => exact (hsegs g).2 k
  · exact ht

open Classical in
theorem emptyReported_buffer (items : List (ItemKind × Nat)) (s : State) (g : Seg) (k : Fin 4) :
    ((emptyReported items s).slot g k).buffer
      = if NamedBy items g k then none else (s.slot g k).buffer := by
  induction items generalizing s with
  | nil => rw [if_neg (by simp [NamedBy])]; rfl
  | cons item items ih =>
    obtain ⟨kind, n⟩ := item
    rw [emptyReported, List.foldl_cons, ← emptyReported, ih, namedBy_cons]
    by_cases hlater : NamedBy items g k
    · simp [hlater]
    · by_cases hkind : kind = .slot
      · simp only [hlater, hkind, if_true, if_false, true_and, or_false, slot_setSlot, Prod.ext_iff,
          eq_comm (a := (slotOfOperand n).1), eq_comm (a := (slotOfOperand n).2)]
        split <;> rfl
      · simp [hlater, hkind]

theorem perCycleUplink_of_sending (h : s.port.tx.sending = true) : perCycleUplink s =
    s.setPort { s.port with uplinkSkips := bump 65535 s.port.uplinkSkips } := if_pos h

theorem perCycleUplink_of_idle (h : s.port.tx.sending = false) : perCycleUplink s =
    emptyReported (cycleItems s) (sendUplink (cycleItems s) s) := by simp [perCycleUplink, h]

end Sys2Proof.Machine
end

section
/-! PROOF. Replies and the UPLINK's sending. -/

namespace Sys2Proof.Proofs

open Sys2Proof.Machine

/-- Settles O12: each case of the pacing state and the transmitter is a lemma of its own. -/
theorem repliesLeave : Obligations.RepliesLeave := by
  refine ⟨fun r s => ⟨fun h => placeReply_of_running r (beforeCycles_of_running h), fun h =>
    ⟨fun hs => placeReply_of_sending r (beforeCycles_iff.2 h) hs,
      fun hs => placeReply_of_idle r (beforeCycles_iff.2 h) hs⟩⟩, fun t s => ⟨fun hs => ?_, fun hs => ?_⟩⟩
  · exact congrArg Host.Outcome.next (if_neg (by simpa [advance] using hs))
  · have hends := transmitEnds_of_sending (s := advance t s) hs
    have leaves {u : State} (hu : sendOwed _ = u) : exec (.transmitDone t) s = .next u :=
      congrArg Host.Outcome.next (hends.trans hu)
    exact ⟨fun h => leaves (sendOwed_of_not_owed h), fun h =>
      ⟨fun hb => leaves (sendOwed_of_before h (beforeCycles_iff.2 hb)),
        fun hb => leaves (sendOwed_of_running h (beforeCycles_of_running hb))⟩⟩

/-- Settles O14: the header is the sum of its fields, each less than its place's size. -/
theorem statusHeaderFields : Obligations.StatusHeaderFields := by
  intro s hqueue h
  have hh : h = _ := statusHeader_eq s
  have hp := pacingStateCode_lt s.pacing.state
  have h0 := groupStateCode_lt (s.group 0).state
  have h1 := groupStateCode_lt (s.group 1).state
  have hmode := (decide (s.mgmt.mode = .operate)).toNat_le
  have hpend := s.pacing.haltPending.toNat_le
  have hattn := (attention s).toNat_le
  have hany := (anyFault s).toNat_le
  have hover := (isLatched .eventOverrun s).toNat_le
  have hdrop := s.mgmt.droppedNotice.toNat_le
  have hclamp := s.port.clampNotice.toNat_le
  have hage := (decide (0 < s.demand.age)).toNat_le
  have hrun := s.check.running.toNat_le
  have bit28 : h.testBit 28 = decide (s.mgmt.mode = .operate) := testBit_eq_of_div_mod (by omega)
  have bit26 : h.testBit 26 = attention s := testBit_eq_of_div_mod (by omega)
  have bit25 : h.testBit 25 = anyFault s := testBit_eq_of_div_mod (by omega)
  have bit24 : h.testBit 24 = isLatched .eventOverrun s := testBit_eq_of_div_mod (by omega)
  have bit15 : h.testBit 15 = decide (0 < s.demand.age) := testBit_eq_of_div_mod (by omega)
  rw [← pacingStateCode_eq, ← groupStateCode_eq, ← groupStateCode_eq, bit28, bit26, bit25, bit24, bit15,
    attention, anyFault, bitVec_bne_zero_iff, bitVec_bne_zero_iff, decide_eq_true_iff, decide_eq_true_iff]
  refine ⟨by omega, by omega, .rfl, testBit_eq_of_div_mod (by omega), by simp, .rfl, rfl, by omega,
    testBit_eq_of_div_mod (by omega), testBit_eq_of_div_mod (by omega), .rfl,
    testBit_eq_of_div_mod (by omega), by omega, by omega, by omega⟩

/-- Settles O15: an UPLINK that is sent empties what `emptyReported_eq` says. -/
theorem perCycleUplink : Obligations.PerCycleUplink := by
  refine fun s => ⟨perCycleUplink_of_sending, fun hs => ?_⟩
  obtain ⟨heq, hsegs⟩ := buffersOnly_emptyReported (cycleItems s) (sendUplink (cycleItems s) s)
  have hbuffer := emptyReported_buffer (cycleItems s) (sendUplink (cycleItems s) s)
  refine ⟨_, (perCycleUplink_of_idle hs).trans heq, fun g => ⟨(hsegs g).1, fun k =>
    ⟨(hsegs g).2 k, fun hn => ?_, fun hn => ?_⟩⟩⟩
  · exact (hbuffer g k).trans (if_pos hn)
  · exact (hbuffer g k).trans (if_neg hn)

end Sys2Proof.Proofs
end

section
/-! SUPPORT. What the segment controllers keep: a property that survives a move of a segment, a station's init
values, an emptied slew memory, a record written, a flag latched and a free choice survives every operation of
the segments. A move of a segment is one that keeps its counters in their widths. -/

namespace Sys2Proof.Machine

variable {s : State}

/-! ## The evaluation of the boot as one update (R144, R145) -/

/-- R127, R145: a boot in progress has run fewer than 64 cycles. -/
def BootCounted (x : Segment) : Prop := x.bootCount ≤ 64 ∧ (x.state = .boot → x.bootCount < 64)

/-- R145: the bound stations that have not completed and have no mark are marked. -/
def markBound (g : Seg) (s : State) : State :=
  (boundStations s.store g).foldl (fun s i => setInit i (markNoInit (s.station i).init) s) s

/-- Init values are stored beside the segments. -/
theorem foldl_setInit_setSeg (f : State → Fin 4 → InitValues) (g : Seg) (x : Segment)
    (hf : ∀ s i, f (s.setSeg g x) i = f s i) (l : List (Fin 4)) (s : State) :
    l.foldl (fun s i => setInit i (f s i) s) (s.setSeg g x)
      = (l.foldl (fun s i => setInit i (f s i) s) s).setSeg g x := by
  induction l generalizing s with
  | nil => rfl
  | cons i l ih =>
    rw [List.foldl_cons, List.foldl_cons, hf, ← ih]
    rfl

theorem foldl_setInit_segs (f : State → Fin 4 → InitValues) (l : List (Fin 4)) (s : State) :
    (l.foldl (fun s i => setInit i (f s i) s) s).segs = s.segs :=
  foldl_keeps State.segs (fun s i => setInit i (f s i) s) (fun _ _ => rfl) l s

theorem setSeg_setSeg (s : State) (g : Seg) (x y : Segment) : (s.setSeg g x).setSeg g y = s.setSeg g y := by
  have h : (s.segs.set g.num x).set g.num y = s.segs.set g.num y :=
    Two.ext_get fun k => by by_cases hk : k = g.num <;> simp [hk]
  simp [State.setSeg, State.setSegs, h]

@[simp] theorem seg_setSeg (s : State) (g g' : Seg) (x : Segment) :
    (s.setSeg g x).seg g' = if g' = g then x else s.seg g' := by
  simp [State.setSeg, State.seg]

theorem markBound_setSeg (g : Seg) (x : Segment) (s : State) :
    markBound g (s.setSeg g x) = (markBound g s).setSeg g x :=
  foldl_setInit_setSeg (fun s i => markNoInit (s.station i).init) g x (fun _ _ => rfl) _ s

theorem goDown_eq (reason : SegReason) (x : Segment) (n : Nat) :
    { goDown { x with bootCount := n } with state := .down, reason := reason } = downSegment reason x := rfl

theorem segChange_goDown (g : Seg) (reason : SegReason) (s : State) :
    segChange g .down reason (s.setSeg g (goDown (s.seg g)))
      = writeEvent (.segment g reason) (s.setSeg g (downSegment reason (s.seg g))) := by
  rw [segChange, setSeg_setSeg, seg_setSeg, if_pos rfl]
  rfl

/-- R145: the end of a boot, from the segment before its count. -/
theorem endBoot_eq (g : Seg) (s : State) :
    endBoot g (s.setSeg g { s.seg g with bootCount := (s.seg g).bootCount + 1 }) =
      if (boundStations s.store g).any fun i => bootDone (s.station i).init then
        writeEvent (.segment g .bootPartial) ((markBound g s).setSeg g { s.seg g with
          state := .up, reason := .bootPartial, bootCount := (s.seg g).bootCount + 1 })
      else latch (.segSilent g) (writeEvent (.segment g .bootFailed)
        ((markBound g s).setSeg g (downSegment .bootFailed (s.seg g)))) := by
  have hmark := markBound_setSeg g { s.seg g with bootCount := (s.seg g).bootCount + 1 } s
  unfold markBound at hmark
  simp only [endBoot, State.setSeg_store, State.setSeg_station] at hmark ⊢
  rw [hmark]
  refine if_congr Iff.rfl ?_ ?_
  · rw [segChange, setSeg_setSeg, seg_setSeg, if_pos rfl]
    rfl
  · rw [segChange_goDown, setSeg_setSeg, seg_setSeg, if_pos rfl]
    rfl

theorem evalBoot_of_complete (g : Seg)
    (h : ((boundStations s.store g).all fun i => bootDone (s.station i).init) = true) :
    evalBoot g s = segChange g .up .bootComplete s := if_pos h

theorem evalBoot_of_incomplete (g : Seg)
    (h : ((boundStations s.store g).all fun i => bootDone (s.station i).init) = false) :
    evalBoot g s =
      if 64 ≤ (s.seg g).bootCount + 1 then
        endBoot g (s.setSeg g { s.seg g with bootCount := (s.seg g).bootCount + 1 })
      else s.setSeg g { s.seg g with bootCount := (s.seg g).bootCount + 1 } := by
  simp [evalBoot, h]

/-! ## The moves of a segment, and what keeps a property -/

/-- A change of a segment that keeps its counters in their widths (R127, R128). -/
structure SegMoves (x y : Segment) : Prop where
  stray : x.stray ≤ 65535 → y.stray ≤ 65535
  boot : BootCounted x → BootCounted y
  errors : (∀ k, (x.slots.get k).errors ≤ 255) → ∀ k, (y.slots.get k).errors ≤ 255

/-- A property that every primitive update of the segment controllers keeps. -/
structure SegKeeps (P : State → Prop) : Prop where
  seg : ∀ s g x, SegMoves (s.seg g) x → P s → P (s.setSeg g x)
  init : ∀ s i v, P s → P (setInit i v s)
  slew : ∀ s i, P s → P (s.setStation i { s.station i with slewMemory := 0 })
  event : ∀ s b, P s → P (writeEvent b s)
  latch : ∀ s f, P s → P (latch f s)
  free : ∀ s n, P s → P (s.setFree n)

/-- A change that leaves the counters and the state alone. -/
theorem segMoves_of_eq {x y : Segment} (hstray : y.stray = x.stray) (hcount : y.bootCount = x.bootCount)
    (hstate : y.state = x.state) (herr : ∀ k, (y.slots.get k).errors = (x.slots.get k).errors) :
    SegMoves x y :=
  ⟨hstray ▸ id, fun h => by rwa [BootCounted, hcount, hstate], fun h k => herr k ▸ h k⟩

/-- A change to a state other than BOOT. -/
theorem segMoves_of_state {x y : Segment} (hstray : y.stray = x.stray) (hcount : y.bootCount ≤ x.bootCount)
    (hstate : y.state ≠ .boot) (herr : ∀ k, (y.slots.get k).errors = (x.slots.get k).errors) :
    SegMoves x y :=
  ⟨hstray ▸ id, fun h => ⟨hcount.trans h.1, fun hb => absurd hb hstate⟩, fun h k => herr k ▸ h k⟩

theorem segMoves_down (reason : SegReason) (x : Segment) : SegMoves x (downSegment reason x) :=
  segMoves_of_state rfl (Nat.zero_le _) (by simp [downSegment]) fun k => by simp [downSegment]

theorem segMoves_partial {x : Segment} (hb : x.state = .boot) (reason : SegReason) :
    SegMoves x { x with state := .up, reason := reason, bootCount := x.bootCount + 1 } :=
  ⟨id, fun hc => ⟨hc.2 hb, by simp⟩, id⟩

theorem errors_setWindows (recs : Four SlotRec) (p : PendingSync) (page : Nat) (x : Four SlotRt)
    (k : Fin 4) : ((setWindows recs p page x).get k).errors = (x.get k).errors := by
  rw [setWindows, Four.get_tabulate]
  split <;> rfl

theorem errors_noneClasses (recs : Four SlotRec) (x : Four SlotRt) (k : Fin 4) :
    ((noneClasses recs x).get k).errors = (x.get k).errors := by
  rw [noneClasses, Four.get_tabulate]
  split <;> rfl

theorem errors_resumeCandidate (x : SlotRt) : (resumeCandidate x).errors = x.errors := by
  unfold resumeCandidate
  split <;> rfl

theorem errors_completeCandidate (chars : List Byte) (x : SlotRt) :
    (completeCandidate chars x).errors = x.errors := by
  unfold completeCandidate
  split <;> rfl

theorem errors_openIfDue (now : Nat) (x : SlotRt) : (openIfDue now x).errors = x.errors := by
  unfold openIfDue
  split
  · split <;> rfl
  · rfl

section Keeps

variable {P : State → Prop} (h : SegKeeps P)
include h

theorem keeps_setSlot (g : Seg) (k : Fin 4) (x : SlotRt)
    (hx : (s.slot g k).errors ≤ 255 → x.errors ≤ 255) (hs : P s) : P (s.setSlot g k x) := by
  refine h.seg _ _ _ ⟨id, id, fun herr j => ?_⟩ hs
  rw [Four.get_set]
  split
  · exact hx (herr k)
  · exact herr j

theorem keeps_segChange (g : Seg) (x : SegState) (r : SegReason) (hx : x ≠ .boot) (hs : P s) :
    P (segChange g x r s) :=
  h.event _ _ (h.seg _ _ _ (segMoves_of_state rfl le_rfl hx fun _ => rfl) hs)

theorem keeps_segDown (g : Seg) (r : SegReason) (hs : P s) :
    P (segChange g .down r (s.setSeg g (goDown (s.seg g)))) := by
  rw [segChange_goDown]
  exact h.event _ _ (h.seg _ _ _ (segMoves_down r _) hs)

theorem keeps_foldl_setInit (f : State → Fin 4 → InitValues) (l : List (Fin 4)) (hs : P s) :
    P (l.foldl (fun s i => setInit i (f s i) s) s) :=
  foldl_invariant P _ (fun _ _ hu => h.init _ _ _ hu) l s hs

theorem keeps_evalBoot (g : Seg) (hb : (s.seg g).state = .boot) (hs : P s) : P (evalBoot g s) := by
  cases hall : (boundStations s.store g).all fun i => bootDone (s.station i).init with
  | true =>
    rw [evalBoot_of_complete g hall]
    exact keeps_segChange h g _ _ (by decide) hs
  | false =>
    have hmark : P (markBound g s) := keeps_foldl_setInit h (fun s i => markNoInit (s.station i).init) _ hs
    have hseg : (markBound g s).seg g = s.seg g :=
      congrArg (Two.get · g.num) (foldl_setInit_segs (fun s i => markNoInit (s.station i).init) _ s)
    rw [evalBoot_of_incomplete g hall]
    split
    · rw [endBoot_eq]
      split
      · exact h.event _ _ (h.seg _ _ _ (hseg.symm ▸ segMoves_partial hb _) hmark)
      · exact h.latch _ _ (h.event _ _ (h.seg _ _ _ (hseg.symm ▸ segMoves_down _ _) hmark))
    · exact h.seg _ _ _ ⟨id, fun _ => ⟨by dsimp only; omega, fun _ => by dsimp only; omega⟩, id⟩ hs

/-! ### Windows and classification -/

theorem keeps_recordClass (g : Seg) (k : Fin 4) (c : SlotClass) (hs : P s) : P (recordClass g k c s) := by
  unfold recordClass
  split
  · exact h.latch _ _ (keeps_setSlot h g k _ (fun _ => bump_le _ _) hs)
  · exact keeps_setSlot h g k _ id hs

theorem keeps_handOn (g : Seg) (k : Fin 4) (w : Window) (chars : List Byte) (hs : P s) :
    P (handOn g k w chars s) := by
  unfold handOn
  split
  · exact h.init _ _ _ hs
  · exact keeps_setSlot h g k _ id hs

theorem keeps_dropRemainder (g : Seg) (k : Fin 4) (hs : P s) : P (dropRemainder g k s) := by
  unfold dropRemainder
  split
  · exact h.seg _ _ _ (segMoves_of_eq rfl rfl rfl fun _ => rfl) hs
  · exact hs

theorem keeps_closeWindow (g : Seg) (k : Fin 4) (hs : P s) : P (closeWindow g k s) := by
  unfold closeWindow
  split
  · exact hs
  · have hclosed (c : SlotClass) := keeps_dropRemainder h g k
      (keeps_recordClass h g k c (keeps_setSlot h g k (noWindow (s.slot g k)) id hs))
    dsimp only
    split
    · exact keeps_handOn h g k _ _ (hclosed _)
    · exact hclosed _

theorem keeps_closeEarly (g : Seg) (k : Fin 4) (hs : P s) : P (closeEarly g k s) := by
  unfold closeEarly
  split
  · exact hs
  · split
    · exact keeps_closeWindow h g k hs
    · exact keeps_setSlot h g k _ id hs

theorem keeps_closeEarlierCycle (g : Seg) (hs : P s) : P (closeEarlierCycle g s) := by
  have hclosed := foldl_invariant P (fun s k => closeEarly g k s)
    (fun _ k hu => keeps_closeEarly h g k hu) four _
    (h.seg s g { s.seg g with pendingSync := none } (segMoves_of_eq rfl rfl rfl fun _ => rfl) hs)
  unfold closeEarlierCycle
  dsimp only
  split
  case isTrue hb =>
    simp only [Bool.and_eq_true, decide_eq_true_eq] at hb
    exact keeps_evalBoot h g hb.2 hclosed
  case isFalse => exact hclosed

theorem keeps_windowOpens (g : Seg) (k : Fin 4) (hs : P s) : P (windowOpens g k s) :=
  keeps_setSlot h g k _ (fun he => (errors_openIfDue _ _).symm ▸ he) hs

theorem keeps_windowCloses (g : Seg) (k : Fin 4) (hs : P s) : P (windowCloses g k s) := by
  unfold windowCloses
  split
  · exact hs
  · split
    · exact hs
    · have hclosed := keeps_closeWindow h g k hs
      dsimp only
      split
      case isTrue hb =>
        simp only [Bool.and_eq_true, decide_eq_true_eq] at hb
        exact keeps_evalBoot h g hb.1 hclosed
      case isFalse => exact hclosed

/-! ### SYNC -/

theorem keeps_clearSlew (g : Seg) (hs : P s) : P (clearSlew g s) := by
  refine foldl_invariant P _ (fun u k hu => ?_) _ s hs
  dsimp only
  split
  · exact h.slew _ _ hu
  · exact hu

theorem keeps_sendSync (g : Seg) (p : PendingSync) (hs : P s) : P (sendSync g p s) := by
  have hslew : P (if (s.seg g).state = .up then clearSlew g s else s) := by
    split
    · exact keeps_clearSlew h g hs
    · exact hs
  exact h.seg _ _ _ (segMoves_of_eq rfl rfl rfl fun _ => errors_setWindows _ _ _ _ _) hslew

theorem keeps_withholdSync (g : Seg) (hs : P s) : P (withholdSync g s) := by
  have hheld := h.seg s g
    { s.seg g with
      withheld := (s.seg g).withheld + 1,
      slots := noneClasses (s.store.slots.get g.num) (s.seg g).slots }
    (segMoves_of_eq rfl rfl rfl fun _ => errors_noneClasses _ _ _) hs
  unfold withholdSync
  dsimp only
  split
  · exact h.latch _ _ (keeps_segChange h g _ _ (by decide) hheld)
  · split
    case isTrue hb => exact keeps_evalBoot h g hb hheld
    case isFalse => exact hheld

theorem keeps_syncFallsDue (g : Seg) (hs : P s) : P (syncFallsDue g s) := by
  unfold syncFallsDue
  split
  · exact hs
  · split
    · exact hs
    · have hdue := h.seg s g { s.seg g with pendingSync := none } (segMoves_of_eq rfl rfl rfl fun _ => rfl) hs
      dsimp only
      split
      · split
        · exact keeps_sendSync h g _ hdue
        · exact keeps_withholdSync h g hdue
      · exact hdue

/-! ### Cycle-begins and entries to HALTED -/

theorem keeps_leaveDown (g : Seg) (hs : P s) : P (leaveDown g s) := by
  unfold leaveDown
  split
  · split
    · exact keeps_segChange h g _ _ (by decide)
        (keeps_foldl_setInit h (fun s i => fallbackInit (s.store.stations.get i)) _ hs)
    · refine h.event _ _ ?_
      have hcleared : P (clearBound g s) := keeps_foldl_setInit h (fun _ _ => InitValues.clear) _ hs
      have heq : clearBound g (s.setSeg g { s.seg g with bootCount := 0 })
          = (clearBound g s).setSeg g { s.seg g with bootCount := 0 } :=
        foldl_setInit_setSeg (fun _ _ => InitValues.clear) g _ (fun _ _ => rfl) _ s
      have hseg : (clearBound g s).seg g = s.seg g :=
        congrArg (Two.get · g.num) (foldl_setInit_segs (fun _ _ => InitValues.clear) _ s)
      rw [heq, setSeg_setSeg, seg_setSeg, if_pos rfl]
      exact h.seg _ _ _ (hseg ▸ ⟨id, fun _ => ⟨by simp, by simp⟩, id⟩) hcleared
  · exact hs

theorem keeps_scheduleSync (g : Seg) (hs : P s) : P (scheduleSync g s) := by
  unfold scheduleSync
  dsimp only
  split
  · exact h.seg _ _ _ (segMoves_of_eq rfl rfl rfl fun _ => rfl) hs
  · exact hs

theorem keeps_segCycleBegin (g : Seg) (hs : P s) : P (segCycleBegin g s) :=
  keeps_scheduleSync h g (keeps_leaveDown h g (keeps_closeEarlierCycle h g hs))

theorem keeps_segHalt (g : Seg) (hs : P s) : P (segHalt g s) := by
  unfold segHalt
  split
  · exact keeps_segDown h g _ hs
  · exact hs

theorem keeps_haltAfterSteps (g : Seg) (hs : P s) : P (haltAfterSteps g s) := by
  unfold haltAfterSteps
  split
  · exact hs
  · exact keeps_segDown h g _ hs

theorem keeps_segEvent (halted cycle : Bool) (g : Seg) (hs : P s) : P (segEvent halted cycle s g) := by
  unfold segEvent
  split
  · have hfree := h.free s (s.free + 1) hs
    dsimp only
    split
    · exact keeps_segCycleBegin h g (keeps_segHalt h g hfree)
    · exact keeps_haltAfterSteps h g (keeps_segCycleBegin h g hfree)
  · have hhalt : P (if halted then segHalt g s else s) := by
      split
      · exact keeps_segHalt h g hs
      · exact hs
    dsimp only
    split
    · exact keeps_segCycleBegin h g hhalt
    · exact hhalt

theorem keeps_bothSegments (halted cycle : Bool) (hs : P s) : P (bothSegments halted cycle s) := by
  unfold bothSegments
  split
  · have hfree := h.free s (s.free + 1) hs
    dsimp only
    split <;> exact keeps_segEvent h _ _ _ (keeps_segEvent h _ _ _ hfree)
  · exact keeps_segEvent h _ _ _ (keeps_segEvent h _ _ _ hs)

/-! ### Replies and jams -/

theorem keeps_strayReply (g : Seg) (hs : P s) : P (strayReply g s) :=
  h.seg _ _ _ ⟨fun _ => bump_le _ _, id, id⟩ hs

theorem keeps_becomeCandidate (g : Seg) (k : Fin 4) (w : Window) (hs : P s) : P (becomeCandidate g k w s) := by
  refine h.seg _ _ _ (segMoves_of_eq rfl rfl rfl fun j => ?_) hs
  simp only [Four.get_set]
  split
  case isTrue hj => subst hj; rfl
  case isFalse => rfl

theorem keeps_replyStarts (g : Seg) (hs : P s) : P (replyStarts g s) := by
  unfold replyStarts
  extract_lets x y u
  split
  · exact hs
  · split
    · refine h.seg _ _ _ ?_ hs
      unfold resumeReply
      split
      · refine segMoves_of_eq rfl rfl rfl fun j => ?_
        simp only [Four.get_set]
        split
        case isTrue hj => subst hj; exact errors_resumeCandidate _
        case isFalse => rfl
      · exact segMoves_of_eq rfl rfl rfl fun _ => rfl
    · split
      · exact h.seg _ _ _ (segMoves_of_eq rfl rfl rfl fun _ => rfl) hs
      · have hu : P u := h.seg _ _ _
          (segMoves_of_eq rfl rfl rfl fun k => by simp only [y, Four.get_tabulate, errors_openIfDue]; rfl) hs
        split
        · exact keeps_strayReply h g hu
        · split
          · split
            · exact keeps_becomeCandidate h g _ _ hu
            · exact keeps_strayReply h g hu
            · exact keeps_strayReply h g hu
          · exact keeps_strayReply h g hu

theorem keeps_replyEnds (g : Seg) (chars : List Byte) (hs : P s) : P (replyEnds g chars s) := by
  unfold replyEnds
  extract_lets x y
  split
  · split
    · refine h.seg _ _ _ (segMoves_of_eq rfl rfl rfl fun j => ?_) hs
      simp only [Four.get_set]
      split
      case isTrue hj => subst hj; exact errors_completeCandidate _ _
      case isFalse => rfl
    · exact h.seg _ _ _ (segMoves_of_eq rfl rfl rfl fun _ => rfl) hs
  · exact hs

theorem keeps_clearJam (g : Seg) (hs : P s) : P (clearJam g s) := by
  unfold clearJam
  split
  · split
    · exact keeps_segDown h g _ hs
    · exact hs
  · exact hs

theorem keeps_emptyReported (items : List (ItemKind × Nat)) (hs : P s) : P (emptyReported items s) := by
  refine foldl_invariant P _ (fun u item hu => ?_) items s hs
  split
  · exact keeps_setSlot h _ _ _ id hu
  · exact hu

end Keeps

end Sys2Proof.Machine
end

section
/-! SUPPORT. What a step keeps: a property that survives the primitive updates of the port, the pacing record,
the management record and the segments, and the entry to HALTED, the computation point, a request's body and
the hard reset as wholes, survives every step. -/

namespace Sys2Proof.Machine

variable {s : State}

/-- R155: the counters of the port. -/
def PortCounted (p : Port) : Prop := p.linkErrors ≤ 65535 ∧ p.uplinkSkips ≤ 65535

/-- R103: the counters of the pacing record. -/
def PacingCounted (p : Pacing) : Prop :=
  p.early ≤ 65535 ∧ p.missedTotal ≤ 65535 ∧ p.ignored ≤ 65535 ∧ p.cut ≤ 65535

/-- A change of the port that keeps its counters and its pending demand in range. -/
structure PortMoves (p q : Port) : Prop where
  counts : PortCounted p → PortCounted q
  demand : demandFits p.pendingDemand.target p.pendingDemand.mass →
    demandFits q.pendingDemand.target q.pendingDemand.mass

/-- A change of the pacing record that keeps its counters and does not stop running cycles. -/
structure PacingMoves (p q : Pacing) : Prop where
  counts : PacingCounted p → PacingCounted q
  runs : p.state = .tracking ∨ p.state = .freewheel → q.state = .tracking ∨ q.state = .freewheel

theorem portMoves_of_eq {p q : Port} (hl : q.linkErrors = p.linkErrors) (hu : q.uplinkSkips = p.uplinkSkips)
    (ht : q.pendingDemand.target = p.pendingDemand.target)
    (hm : q.pendingDemand.mass = p.pendingDemand.mass) : PortMoves p q :=
  ⟨fun h => by rwa [PortCounted, hl, hu], fun h => by rwa [ht, hm]⟩

/-- A change that leaves the pacing state and the counters alone. -/
theorem pacingMoves_of_eq {p q : Pacing} (hs : q.state = p.state) (he : q.early = p.early)
    (hm : q.missedTotal = p.missedTotal) (hi : q.ignored = p.ignored) (hc : q.cut = p.cut) :
    PacingMoves p q :=
  ⟨fun h => by rwa [PacingCounted, he, hm, hi, hc], fun h => by rwa [hs]⟩

/-- A change of state that leaves the counters alone. -/
theorem pacingMoves_of_state {p q : Pacing} (he : q.early = p.early) (hm : q.missedTotal = p.missedTotal)
    (hi : q.ignored = p.ignored) (hc : q.cut = p.cut)
    (hs : p.state = .tracking ∨ p.state = .freewheel → q.state = .tracking ∨ q.state = .freewheel) :
    PacingMoves p q :=
  ⟨fun h => by rwa [PacingCounted, he, hm, hi, hc], hs⟩

/-- A property that every command but a request and a hard reset keeps, by its parts. -/
structure FlowKeeps (P : State → Prop) : Prop extends SegKeeps P where
  queue : ∀ s q, P s → P (s.setPending q)
  clock : ∀ s t, P s → P (s.setNow t)
  port : ∀ s x, PortMoves s.port x → P s → P (s.setPort x)
  pacing : ∀ s x, PacingMoves s.pacing x → P s → P (s.setPacing x)
  mgmt : ∀ s x, x.mode = s.mgmt.mode → (s.mgmt.dropped ≤ 65535 → x.dropped ≤ 65535) → P s →
    P (s.setMgmt x)
  halted : ∀ s r c, P s → P (enterHalted r c s)
  point : ∀ s, P s → P (computePoint s)

/-- A property that every step keeps. -/
structure Keeps (P : State → Prop) : Prop extends FlowKeeps P where
  body : ∀ s code args, P s → P (requestBody code args s).1
  hard : ∀ s, P s → P (hardReset s)

theorem clampSpeed_le (z : Int) : clampSpeed z ≤ 90000 := by
  rw [clampSpeed_eq]
  split_ifs <;> omega

theorem clampMass_range (n : Nat) : 500 ≤ clampMass n ∧ clampMass n ≤ 6000 := by
  rw [clampMass_eq]
  split_ifs <;> omega

/-- The command of a request takes its code's body, or UNKNOWN's. -/
theorem exec_takes {c : Instr} {code tag : Byte} {args : List Byte} (s : State)
    (hc : c.request? = some (code, tag, args)) :
    ∃ body, (body = requestBody code args ∨ body = unknownRequest) ∧
      exec c s = .next (takeRequest code tag body (arrive c.time s)) := by
  cases c <;> simp only [Instr.request?, Option.some.injEq, Prod.mk.injEq, reduceCtorEq] at hc <;>
    obtain ⟨rfl, rfl, rfl⟩ := hc
  case unknown => exact ⟨_, .inr rfl, rfl⟩
  all_goals exact ⟨_, .inl rfl, rfl⟩

section Keeps

variable {P : State → Prop} (h : FlowKeeps P)
include h

theorem keeps_arrive (t : Nat) (hs : P s) : P (arrive t s) :=
  h.port _ _ (portMoves_of_eq rfl rfl rfl rfl) (h.clock _ _ hs)

/-! ### Replies and UPLINKs -/

theorem keeps_sendUplink (items : List (ItemKind × Nat)) (hs : P s) : P (sendUplink items s) :=
  h.mgmt _ _ rfl id (h.port _ _ (portMoves_of_eq rfl rfl rfl rfl) hs)

theorem keeps_immediateUplink (hs : P s) : P (immediateUplink s) :=
  h.port _ _ (portMoves_of_eq rfl rfl rfl rfl) (keeps_sendUplink h [] hs)

theorem keeps_placeReply (r : Reply) (hs : P s) : P (placeReply r s) := by
  have hheld := h.mgmt s { s.mgmt with holder := some r } rfl id hs
  have howed := h.port (s.setMgmt { s.mgmt with holder := some r }) { s.port with replyOwed := true }
    (portMoves_of_eq rfl rfl rfl rfl) hheld
  unfold placeReply
  dsimp only
  split
  · split
    · exact howed
    · exact keeps_immediateUplink h howed
  · exact hheld

theorem keeps_dropRequest (hs : P s) : P (dropRequest s) := h.mgmt _ _ rfl (fun _ => bump_le _ _) hs

theorem keeps_takeRequest (code tag : Byte) (body : Request) (hb : P (body s).1) (hs : P s) :
    P (takeRequest code tag body s) := by
  unfold takeRequest
  split
  · exact keeps_dropRequest h hs
  · exact keeps_placeReply h _ hb

theorem keeps_transmitEnds (hs : P s) : P (transmitEnds s) := by
  unfold transmitEnds
  split
  · have hended := h.port s { s.port with tx := { s.port.tx with sending := false, frame := [] } }
      (portMoves_of_eq rfl rfl rfl rfl) hs
    unfold sendOwed
    split
    · split
      · exact keeps_immediateUplink h hended
      · exact h.port _ _ (portMoves_of_eq rfl rfl rfl rfl) hended
    · exact hended
  · exact hs

/-! ### The cell link -/

theorem keeps_linkError (hs : P s) : P (linkError s) :=
  h.latch _ _ (h.port _ _ ⟨fun hp => ⟨bump_le _ _, hp.2⟩, id⟩ hs)

theorem keeps_takeDemand (m : DriveMode) (v : Int) (n : Nat) (hs : P s) : P (takeDemand m v n s) :=
  h.port _ _ ⟨id, fun _ => ⟨clampSpeed_le v, clampMass_range n⟩⟩ hs

theorem keeps_receiver (rx : RxState) (hs : P s) : P (receiver rx s) :=
  h.port _ _ (portMoves_of_eq rfl rfl rfl rfl) hs

theorem keeps_lineFallsIdle (hs : P s) : P (lineFallsIdle s) := by
  unfold lineFallsIdle
  split
  · exact keeps_receiver h _ hs
  · exact keeps_receiver h _ hs
  · exact keeps_linkError h (keeps_receiver h _ hs)
  · exact keeps_linkError h (keeps_receiver h _ hs)

/-! ### Pacing -/

theorem keeps_anchorOn (i : BitVec 6) (hs : P s) : P (anchorOn i s) :=
  h.pacing _ _ (pacingMoves_of_eq rfl rfl rfl rfl rfl) hs

theorem keeps_cycleBegin (t : Nat) (i : BitVec 6) (hs : P s) : P (cycleBegin t i s) := by
  refine h.pacing _ _ ⟨fun ⟨he, hm, hi, hc⟩ => ⟨he, hm, hi, ?_⟩, id⟩ hs
  dsimp only
  split
  · exact bump_le _ _
  · exact hc

theorem keeps_startCycle (i : BitVec 6) (hs : P s) : P (startCycle i s) := by
  unfold startCycle skewEvent
  split
  · exact keeps_cycleBegin h _ _ hs
  · exact h.event _ _ (keeps_cycleBegin h _ _ hs)

theorem keeps_carryCycle {change : State → State} (hc : ∀ u, P u → P (change u)) (hs : P s) :
    P (carryCycle change s) := by
  unfold carryCycle
  split
  · exact h.halted _ _ _ hs
  · exact keeps_bothSegments h.toSegKeeps _ _ (hc _ hs)

theorem keeps_earlyStart (hs : P s) : P (earlyStart s) :=
  h.latch _ _ (h.pacing _ _ ⟨fun ⟨_, hp⟩ => ⟨bump_le _ _, hp⟩, id⟩ hs)

theorem keeps_countGoodRun (good : Bool) (hs : P s) : P (countGoodRun good s) := by
  unfold countGoodRun
  extract_lets n
  split
  · exact h.event _ _ (h.pacing _ _ (pacingMoves_of_state rfl rfl rfl rfl fun _ => .inl rfl) hs)
  · exact h.pacing _ _ (pacingMoves_of_eq rfl rfl rfl rfl rfl) hs

theorem keeps_startInListen (i : BitVec 6) (hl : s.pacing.state = .listen) (hs : P s) :
    P (startInListen i s) :=
  h.event _ _ (h.pacing _ _ (pacingMoves_of_state rfl rfl rfl rfl fun hr => by simp [anchorOn, hl] at hr)
    (keeps_anchorOn h i hs))

theorem keeps_startInAcquire (i : BitVec 6) (ha : s.pacing.state = .acquire) (hs : P s) :
    P (startInAcquire i s) := by
  unfold startInAcquire
  split
  · exact h.event _ _ (h.pacing _ _ (pacingMoves_of_state rfl rfl rfl rfl fun hr => by
      simp [anchorOn, ha] at hr) (keeps_anchorOn h i hs))
  · exact keeps_anchorOn h i hs

theorem keeps_confirmed (hs : P s) : P (confirmed s) :=
  h.event _ _ (h.pacing _ _ (pacingMoves_of_state rfl rfl rfl rfl fun _ => .inl rfl) hs)

theorem keeps_startInConfirm (i : BitVec 6) (hc : s.pacing.state = .confirm) (hs : P s) :
    P (startInConfirm i s) := by
  unfold startInConfirm
  split
  · split
    · exact h.pacing _ _ (pacingMoves_of_eq rfl rfl rfl rfl rfl) (keeps_anchorOn h i hs)
    · exact keeps_carryCycle h (fun _ => keeps_confirmed h) (keeps_cycleBegin h _ _ hs)
  · exact h.event _ _ (h.pacing _ _ (pacingMoves_of_state rfl rfl rfl rfl fun hr => by
      simp [anchorOn, hc] at hr) (keeps_anchorOn h i hs))

theorem keeps_acceptStart (i : BitVec 6) (hs : P s) : P (acceptStart i s) := by
  unfold acceptStart
  split
  case h_1 hl => exact keeps_startInListen h i hl hs
  case h_2 ha => exact keeps_startInAcquire h i ha hs
  case h_3 hc => exact keeps_startInConfirm h i hc hs
  case h_4 =>
    unfold startInTracking
    split
    · exact keeps_earlyStart h hs
    · split
      · exact keeps_carryCycle h (fun _ hu => hu) (keeps_startCycle h i hs)
      · exact hs
  case h_5 =>
    unfold startInFreewheel
    split
    · exact keeps_earlyStart h hs
    · exact keeps_carryCycle h (fun _ => keeps_countGoodRun h _) (keeps_startCycle h i hs)
  case h_6 =>
    exact h.pacing _ _ ⟨fun ⟨he, hm, _, hc⟩ => ⟨he, hm, bump_le _ _, hc⟩, id⟩ hs

theorem keeps_silenceFalls (hs : P s) : P (silenceFalls s) := by
  unfold silenceFalls
  split
  case isTrue hd =>
    refine h.event _ _ (h.pacing _ _ (pacingMoves_of_state rfl rfl rfl rfl fun hr => ?_) hs)
    rcases hd.1 with hp | hp <;> simp [hp] at hr
  case isFalse => exact hs

theorem keeps_missedBegin (hs : P s) : P (missedBegin s) :=
  h.pacing _ _ ⟨fun ⟨he, _, hp⟩ => ⟨he, bump_le _ _, hp⟩, id⟩ (keeps_cycleBegin h _ _ hs)

theorem keeps_missedFromTracking (hs : P s) : P (missedFromTracking s) := by
  unfold missedFromTracking
  split
  · exact h.halted _ _ _ (h.pacing _ _ (pacingMoves_of_eq rfl rfl rfl rfl rfl) hs)
  · exact keeps_bothSegments h.toSegKeeps _ _
      (h.event _ _ (h.pacing _ _ (pacingMoves_of_state rfl rfl rfl rfl fun _ => .inr rfl) hs))

theorem keeps_missedInFreewheel (hs : P s) : P (missedInFreewheel s) := by
  have hcounted := h.pacing s { s.pacing with missed := s.pacing.missed + 1, goodRun := 0 }
    (pacingMoves_of_eq rfl rfl rfl rfl rfl) hs
  unfold missedInFreewheel
  dsimp only
  split
  · exact h.halted _ _ _ hcounted
  · exact keeps_bothSegments h.toSegKeeps _ _ hcounted

theorem keeps_missedFalls (hs : P s) : P (missedFalls s) := by
  have hbegun := keeps_missedBegin h hs
  unfold missedFalls
  split
  · split
    · split
      · exact h.halted _ _ _ hbegun
      · exact keeps_missedFromTracking h hbegun
    · split
      · exact h.halted _ _ _ hbegun
      · exact keeps_missedInFreewheel h hbegun
    all_goals exact hs
  · exact hs

theorem keeps_localFalls (hs : P s) : P (localFalls s) := by
  unfold localFalls
  split
  · exact keeps_bothSegments h.toSegKeeps _ _ (keeps_cycleBegin h _ _ hs)
  · exact hs

/-! ### The commands -/

theorem keeps_computationFalls (hs : P s) : P (computationFalls s) := by
  unfold computationFalls
  split
  · split
    · exact h.point _ hs
    · exact hs
  · exact hs

theorem keeps_takeFrame (f : Frame) (hb : ∀ code args, P (requestBody code args s).1) (hs : P s) :
    P (takeFrame f s) := by
  cases f with
  | start i => exact keeps_acceptStart h i hs
  | demand m v n => exact keeps_takeDemand h m v n hs
  | request code tag args => exact keeps_takeRequest h code tag _ (hb _ _) hs
  | bad => exact keeps_linkError h hs

theorem keeps_receiveByte (b : Byte)
    (hb : ∀ u code args, u.mgmt = s.mgmt → P u → P (requestBody code args u).1) (hs : P s) :
    P (receiveByte b s) := by
  have hp (x : Port) (hx : PortMoves s.port x) : P (s.setPort x) := h.port _ x hx hs
  have hquiet := hp { s.port with quietSince := s.now } (portMoves_of_eq rfl rfl rfl rfl)
  unfold receiveByte frameByte
  dsimp only
  split
  · exact hquiet
  · exact hquiet
  · exact keeps_receiver h _ hquiet
  · split
    · exact keeps_receiver h _ hquiet
    · split
      · have harrived := h.port (s.setPort { s.port with quietSince := s.now })
          { s.port with rx := .idleWait, burst := [], quietSince := s.now } (portMoves_of_eq rfl rfl rfl rfl) hquiet
        exact keeps_takeFrame h _ (fun code args => hb _ code args rfl harrived) harrived
      · exact h.port _ _ (portMoves_of_eq rfl rfl rfl rfl) hquiet

/-- A command keeps what its request's body keeps from a state with the same mode. -/
theorem keeps_exec {c : Instr} {t : State}
    (hb : ∀ u code args, u.mgmt = s.mgmt → P u → P (requestBody code args u).1)
    (hh : ∀ n, c = .hardReset n → P (hardReset (advance n s))) (hs : P s) (he : exec c s = .next t) : P t := by
  have hadv : P (advance c.time s) := h.clock _ _ hs
  have harr : P (arrive c.time s) := keeps_arrive h _ hs
  have request {code tag args} (hc : c.request? = some (code, tag, args)) : P t := by
    obtain ⟨body, hbody, hexec⟩ := exec_takes s hc
    obtain rfl := Host.Outcome.next.inj (hexec.symm.trans he)
    refine keeps_takeRequest h code tag body ?_ harr
    rcases hbody with rfl | rfl
    · exact hb _ _ _ rfl harr
    · exact harr
  cases c with
  | hardReset n => cases he; exact hh n rfl
  | start => cases he; exact keeps_acceptStart h _ harr
  | demand => cases he; exact keeps_takeDemand h _ _ _ harr
  | linkCheckDiscard => cases he; exact keeps_linkError h harr
  | lineIdle => cases he; exact keeps_lineFallsIdle h hadv
  | requestDropped =>
    cases he
    split
    · exact keeps_dropRequest h harr
    · exact harr
  | silence => cases he; exact keeps_silenceFalls h hadv
  | missedCycle => cases he; exact keeps_missedFalls h hadv
  | localCycleBegin => cases he; exact keeps_localFalls h hadv
  | computationPoint => cases he; exact keeps_computationFalls h hadv
  | syncDue => cases he; exact keeps_syncFallsDue h.toSegKeeps _ hadv
  | windowOpen => cases he; exact keeps_windowOpens h.toSegKeeps _ _ hadv
  | windowClose => cases he; exact keeps_windowCloses h.toSegKeeps _ _ hadv
  | replyStart => cases he; exact keeps_replyStarts h.toSegKeeps _ hadv
  | replyComplete => cases he; exact keeps_replyEnds h.toSegKeeps _ _ hadv
  | transmitDone => cases he; exact keeps_transmitEnds h hadv
  | cellLinkByteReceived => cases he; exact keeps_receiveByte h _ hb hadv
  | _ => exact request rfl

end Keeps

/-- What a step's parts keep, the step keeps. -/
theorem keeps_step {P : State → Prop} (h : Keeps P) {t : State} (hs : P s) (hst : step s = .next t) : P t := by
  unfold step at hst
  split at hst
  · cases hst
    unfold idle
    split
    · exact h.queue _ _ hs
    · exact h.clock _ _ hs
  case h_2 c rest _ =>
    have hrest : P (s.setPending rest) := h.queue _ _ hs
    exact keeps_exec h.toFlowKeeps (fun u code args _ hu => h.body u code args hu)
      (fun n _ => h.hard _ (h.clock _ _ hrest)) hrest hst

end Sys2Proof.Machine
end

section
/-! SUPPORT. A record written and a flag latched change the report alone. -/

namespace Sys2Proof.Machine

variable (b : EventBody) (f : Flag) (s : State)

@[simp] theorem writeEvent_now : (writeEvent b s).now = s.now := by
  rw [writeEvent_eq_setReport, State.setReport_now]

@[simp] theorem writeEvent_pending : (writeEvent b s).pending = s.pending := by
  rw [writeEvent_eq_setReport, State.setReport_pending]

@[simp] theorem writeEvent_port : (writeEvent b s).port = s.port := by
  rw [writeEvent_eq_setReport, State.setReport_port]

@[simp] theorem writeEvent_pacing : (writeEvent b s).pacing = s.pacing := by
  rw [writeEvent_eq_setReport, State.setReport_pacing]

@[simp] theorem writeEvent_store : (writeEvent b s).store = s.store := by
  rw [writeEvent_eq_setReport, State.setReport_store]

@[simp] theorem writeEvent_segs : (writeEvent b s).segs = s.segs := by
  rw [writeEvent_eq_setReport, State.setReport_segs]

@[simp] theorem writeEvent_stations : (writeEvent b s).stations = s.stations := by
  rw [writeEvent_eq_setReport, State.setReport_stations]

@[simp] theorem writeEvent_demand : (writeEvent b s).demand = s.demand := by
  rw [writeEvent_eq_setReport, State.setReport_demand]

@[simp] theorem writeEvent_setpoints : (writeEvent b s).setpoints = s.setpoints := by
  rw [writeEvent_eq_setReport, State.setReport_setpoints]

@[simp] theorem writeEvent_directs : (writeEvent b s).directs = s.directs := by
  rw [writeEvent_eq_setReport, State.setReport_directs]

@[simp] theorem writeEvent_mgmt : (writeEvent b s).mgmt = s.mgmt := by
  rw [writeEvent_eq_setReport, State.setReport_mgmt]

@[simp] theorem writeEvent_free : (writeEvent b s).free = s.free := by
  rw [writeEvent_eq_setReport, State.setReport_free]

@[simp] theorem writeEvent_seg (g : Seg) : (writeEvent b s).seg g = s.seg g := by
  rw [writeEvent_eq_setReport, State.setReport_seg]

@[simp] theorem writeEvent_station (i : Fin 4) : (writeEvent b s).station i = s.station i := by
  rw [writeEvent_eq_setReport, State.setReport_station]

@[simp] theorem writeEvent_group (g : Fin 2) : (writeEvent b s).group g = s.group g := by
  rw [writeEvent_eq_setReport, State.setReport_group]

@[simp] theorem writeEvent_direct (i : Fin 4) : (writeEvent b s).direct i = s.direct i := by
  rw [writeEvent_eq_setReport, State.setReport_direct]

@[simp] theorem latch_now : (latch f s).now = s.now := rfl

@[simp] theorem latch_pending : (latch f s).pending = s.pending := rfl

@[simp] theorem latch_port : (latch f s).port = s.port := rfl

@[simp] theorem latch_pacing : (latch f s).pacing = s.pacing := rfl

@[simp] theorem latch_store : (latch f s).store = s.store := rfl

@[simp] theorem latch_segs : (latch f s).segs = s.segs := rfl

@[simp] theorem latch_stations : (latch f s).stations = s.stations := rfl

@[simp] theorem latch_demand : (latch f s).demand = s.demand := rfl

@[simp] theorem latch_groups : (latch f s).groups = s.groups := rfl

@[simp] theorem latch_setpoints : (latch f s).setpoints = s.setpoints := rfl

@[simp] theorem latch_directs : (latch f s).directs = s.directs := rfl

@[simp] theorem latch_check : (latch f s).check = s.check := rfl

@[simp] theorem latch_lastCheck : (latch f s).lastCheck = s.lastCheck := rfl

@[simp] theorem latch_mgmt : (latch f s).mgmt = s.mgmt := rfl

@[simp] theorem latch_free : (latch f s).free = s.free := rfl

@[simp] theorem latch_seg (g : Seg) : (latch f s).seg g = s.seg g := rfl

@[simp] theorem latch_station (i : Fin 4) : (latch f s).station i = s.station i := rfl

@[simp] theorem latch_group (g : Fin 2) : (latch f s).group g = s.group g := rfl

@[simp] theorem latch_direct (i : Fin 4) : (latch f s).direct i = s.direct i := rfl

theorem writeEvent_setStations (x : Four StationRt) :
    writeEvent b (s.setStations x) = (writeEvent b s).setStations x := by
  rw [writeEvent_eq_setReport, writeEvent_eq_setReport b s,
    writeEvent_report_congr b (s := s.setStations x) (s' := s) rfl rfl]
  rfl

theorem writeEvent_setSegs (x : Two Segment) : writeEvent b (s.setSegs x) = (writeEvent b s).setSegs x := by
  rw [writeEvent_eq_setReport, writeEvent_eq_setReport b s,
    writeEvent_report_congr b (s := s.setSegs x) (s' := s) rfl rfl]
  rfl

theorem writeEvent_setDemand (x : EffDemand) : writeEvent b (s.setDemand x) = (writeEvent b s).setDemand x := by
  rw [writeEvent_eq_setReport, writeEvent_eq_setReport b s,
    writeEvent_report_congr b (s := s.setDemand x) (s' := s) rfl rfl]
  rfl

theorem writeEvent_setSetpoints (x : Four SetPoint) :
    writeEvent b (s.setSetpoints x) = (writeEvent b s).setSetpoints x := by
  rw [writeEvent_eq_setReport, writeEvent_eq_setReport b s,
    writeEvent_report_congr b (s := s.setSetpoints x) (s' := s) rfl rfl]
  rfl

theorem writeEvent_setPort (x : Port) : writeEvent b (s.setPort x) = (writeEvent b s).setPort x := by
  rw [writeEvent_eq_setReport, writeEvent_eq_setReport b s,
    writeEvent_report_congr b (s := s.setPort x) (s' := s) rfl rfl]
  rfl

theorem writeEvent_setMgmt (x : Mgmt) : writeEvent b (s.setMgmt x) = (writeEvent b s).setMgmt x := by
  rw [writeEvent_eq_setReport, writeEvent_eq_setReport b s,
    writeEvent_report_congr b (s := s.setMgmt x) (s' := s) rfl rfl]
  rfl

theorem writeEvent_setStore (x : Store) : writeEvent b (s.setStore x) = (writeEvent b s).setStore x := by
  rw [writeEvent_eq_setReport, writeEvent_eq_setReport b s,
    writeEvent_report_congr b (s := s.setStore x) (s' := s) rfl rfl]
  rfl

theorem writeEvent_setFree (x : Nat) : writeEvent b (s.setFree x) = (writeEvent b s).setFree x := by
  rw [writeEvent_eq_setReport, writeEvent_eq_setReport b s,
    writeEvent_report_congr b (s := s.setFree x) (s' := s) rfl rfl]
  rfl

end Sys2Proof.Machine
end

section
/-! SUPPORT. Arithmetic of the part: exact rounding, and the bounds of means, ramps and rings. -/

namespace Sys2Proof.Machine

/-! ## Rounding (R2) -/

theorem roundDiv_natAbs (n : Int) (d : Nat) :
    (roundDiv n d).natAbs = n.sign.natAbs * ((2 * n.natAbs + d) / (2 * d)) := by
  rw [roundDiv, Int.natAbs_mul, Int.natAbs_natCast]

theorem roundDiv_neg (n : Int) (d : Nat) : roundDiv (-n) d = -roundDiv n d := by
  simp [roundDiv]

@[simp] theorem roundDiv_zero (d : Nat) : roundDiv 0 d = 0 := by simp [roundDiv]

theorem roundDiv_natCast (m d : Nat) : roundDiv m d = ((2 * m + d) / (2 * d) : Nat) := by
  rcases Nat.eq_zero_or_pos m with rfl | hm
  · rcases Nat.eq_zero_or_pos d with rfl | hd
    · simp
    · have : d / (2 * d) = 0 := Nat.div_eq_of_lt (by omega)
      simp [this]
  · rw [roundDiv, Int.sign_natCast_of_ne_zero (by omega), Int.natAbs_natCast, one_mul]

/-- R2: of a quotient that is not negative. -/
theorem roundsTo_natCast {m d : Nat} (hd : 0 < d) : RoundsTo m d (roundDiv m d) := by
  rw [roundDiv_natCast]
  have hlo := Nat.div_mul_le_self (2 * m + d) (2 * d)
  have hhi := Nat.lt_div_mul_add (a := 2 * m + d) (b := 2 * d) (by omega)
  have hq : (2 * m + d) / (2 * d) * (2 * d) = 2 * ((2 * m + d) / (2 * d) * d) := by ring
  rw [hq] at hlo hhi
  generalize (2 * m + d) / (2 * d) = q at *
  rw [RoundsTo, ← Nat.cast_mul]
  omega

/-- R2: `roundDiv` is rounding to nearest, halves away from zero. -/
theorem roundsTo_roundDiv {n : Int} {d : Nat} (hd : 0 < d) : RoundsTo n d (roundDiv n d) := by
  obtain ⟨m, rfl | rfl⟩ := n.eq_nat_or_neg
  · exact roundsTo_natCast hd
  · obtain ⟨hnear, htie⟩ := roundsTo_natCast (m := m) hd
    have hneg : -roundDiv m d * (d : Int) = -(roundDiv m d * d) := by ring
    rw [roundDiv_neg, RoundsTo, hneg]
    omega

theorem pos_of_roundsTo {n z : Int} {d : Nat} (h : RoundsTo n d z) : 0 < d := by
  rcases Nat.eq_zero_or_pos d with rfl | hd
  · obtain ⟨hnear, htie⟩ := h
    simp only [Nat.cast_zero, mul_zero] at hnear htie
    omega
  · exact hd

/-- R2: rounding has one result. -/
theorem RoundsTo.unique {n z z' : Int} {d : Nat} (h : RoundsTo n d z) (h' : RoundsTo n d z') : z = z' := by
  have wlog_lt : ∀ {a b : Int}, RoundsTo n d a → RoundsTo n d b → ¬ a < b := by
    rintro a b ⟨ha, hta⟩ ⟨hb, htb⟩ hlt
    obtain ⟨k, rfl⟩ : ∃ k : Nat, b = a + 1 + k := ⟨(b - a - 1).toNat, by omega⟩
    have hd : 0 < d := pos_of_roundsTo ⟨ha, hta⟩
    have hk : 0 ≤ (k : Int) * d := by positivity
    have hb' : (a + 1 + k) * (d : Int) = a * d + d + k * d := by ring
    rw [hb'] at hb htb
    have hside : 0 ≤ a * (d : Int) ∨ a * d ≤ -(d : Int) := by
      rcases le_or_gt 0 a with h0 | h0
      · exact .inl (by positivity)
      · exact .inr (by nlinarith)
    omega
  exact le_antisymm (not_lt.1 (wlog_lt h' h)) (not_lt.1 (wlog_lt h h'))

theorem roundDiv_eq_of_roundsTo {n z : Int} {d : Nat} (h : RoundsTo n d z) : roundDiv n d = z :=
  (roundsTo_roundDiv (pos_of_roundsTo h)).unique h

/-- A quotient of at most `b` rounds to at most `b`. -/
theorem roundDiv_natAbs_le {n : Int} {d b : Nat} (h : n.natAbs ≤ d * b) : (roundDiv n d).natAbs ≤ b := by
  rw [roundDiv_natAbs]
  have hsign : n.sign.natAbs ≤ 1 := by
    rcases lt_trichotomy n 0 with hn | rfl | hn
    · simp [Int.sign_eq_neg_one_of_neg hn]
    · simp
    · simp [Int.sign_eq_one_of_pos hn]
  have hquot : (2 * n.natAbs + d) / (2 * d) ≤ b := by
    rcases Nat.eq_zero_or_pos d with rfl | hd
    · simp
    · refine Nat.le_of_lt_succ ((Nat.div_lt_iff_lt_mul (by omega)).2 ?_)
      have : b.succ * (2 * d) = 2 * (d * b) + 2 * d := by rw [Nat.succ_eq_add_one]; ring
      omega
  calc _ ≤ 1 * ((2 * n.natAbs + d) / (2 * d)) := Nat.mul_le_mul_right _ hsign
    _ ≤ b := by omega

/-! ## Means, ramps and rings (R17, R46 to R48) -/

theorem sum_natAbs_le {b : Nat} (l : List Int) (h : ∀ z ∈ l, z.natAbs ≤ b) :
    l.sum.natAbs ≤ l.length * b := by
  induction l with
  | nil => simp
  | cons z l ih =>
    obtain ⟨hz, hl⟩ := List.forall_mem_cons.1 h
    have := ih hl
    rw [List.sum_cons, List.length_cons, Nat.succ_mul]
    omega

/-- R46: a mean of speeds is a speed. -/
theorem speedFits_mean {l : List Int} (h : ∀ z ∈ l, speedFits z) : speedFits (roundDiv l.sum l.length) :=
  roundDiv_natAbs_le (sum_natAbs_le l h)

/-- R47: the ramp stays between where it is and the demanded target. -/
theorem speedFits_ramp {step : Nat} {target current : Int} (ht : speedFits target)
    (hc : speedFits current) : speedFits (ramp step target current) := by
  unfold ramp speedFits at *
  split_ifs <;> omega

theorem pushRing_eq (ring : List Int) (v : Int) :
    pushRing ring v = (ring ++ [v]).drop ((ring ++ [v]).length - 8) := by
  unfold pushRing
  rw [List.length_append, List.length_singleton]
  split
  · rw [show ring.length + 1 - 8 = 0 by omega, List.drop_zero]
  · rw [List.drop_append_of_le_length (by omega)]
    rfl

theorem ringFits_pushRing {ring : List Int} {v : Int} (h : ringFits ring) (hv : speedFits v) :
    ringFits (pushRing ring v) := by
  obtain ⟨hlen, hall⟩ := h
  rw [pushRing_eq ring v]
  refine ⟨by simp; omega, fun z hz => ?_⟩
  rcases List.mem_append.1 (List.mem_of_mem_drop hz) with hz | hz
  · exact hall z hz
  · rwa [List.mem_singleton.1 hz]

theorem ringAccel_le (ring : List Int) (k period : Nat) : (ringAccel ring k period).natAbs ≤ 50000 := by
  unfold ringAccel
  split
  · simp
  · exact clampAbs_bound _ _

end Sys2Proof.Machine
end

section
/-! SUPPORT. What the loads can do to the state: nothing, or one replacement of the configuration store. -/

namespace Sys2Proof.Machine

variable {s : State}

/-- R173: the state a load leaves where it passes, from `s`. -/
inductive Loaded (s : State) : State → Prop
  | cell (hm : s.mgmt.mode = .config) (c : CellRec) : Loaded s (s.setStore { s.store with cell := c })
  | road (hm : s.mgmt.mode = .config) (t : RoadTable) : Loaded s (s.setStore { s.store with road := t })
  | placed (hm : s.mgmt.mode = .config) (i : Fin 4) (r : StationRec) (hr : r.present = true) :
    Loaded s (placeStation i r s)
  | removed (hm : s.mgmt.mode = .config) (i : Fin 4) : Loaded s (removeStation i s)
  | group (hm : s.mgmt.mode = .config) (g : Fin 2) (r : GroupRec)
    (hr : r.members &&& (s.store.groups.get (otherGroup g)).members = 0) : Loaded s (placeGroup g r s)
  | slot (hm : s.mgmt.mode = .config) (g : Seg) (k : Fin 4) (r : SlotRec)
    (hr : r.enabled = true → stationFree s.store g k r.station = true) : Loaded s (placeSlot g k r s)
  | schedule (n : Nat) (e : SchedEntry) :
    Loaded s (s.setStore { s.store with schedule := s.store.schedule.set n e })

theorem inConfig_cases (body : Request) (s : State) :
    (inConfig body s).1 = s ∨ s.mgmt.mode = .config ∧ inConfig body s = body s := by
  unfold inConfig
  split
  · exact .inl rfl
  case isFalse hm =>
    refine .inr ⟨?_, rfl⟩
    cases hmode : s.mgmt.mode with
    | config => rfl
    | operate => exact absurd hmode hm

theorem loaded_of_checked {checks : List (Nat × Bool)} {apply : State → State}
    (h : s.mgmt.mode = .config → (∀ c ∈ checks, c.2 = true) → Loaded s (apply s)) :
    (inConfig (checkedLoad checks apply) s).1 = s ∨ Loaded s (inConfig (checkedLoad checks apply) s).1 := by
  rcases inConfig_cases (checkedLoad checks apply) s with heq | ⟨hm, heq⟩
  · exact .inl heq
  · rw [heq]
    rcases checkedLoad_eq checks apply s with ⟨n, -, heq⟩ | ⟨hpass, heq⟩
    · exact .inl (congrArg Prod.fst heq)
    · rw [heq]
      exact .inr (h hm hpass)

theorem loadCell_loaded (args : List Byte) (s : State) :
    (loadCell args s).1 = s ∨ Loaded s (loadCell args s).1 := by
  unfold loadCell
  split
  · exact loaded_of_checked fun hm _ => .cell hm _
  · exact .inl rfl

theorem loadRoadload_loaded (args : List Byte) (s : State) :
    (loadRoadload args s).1 = s ∨ Loaded s (loadRoadload args s).1 := by
  unfold loadRoadload
  split
  · exact .inl rfl
  · extract_lets n
    split
    · exact .inl rfl
    · exact loaded_of_checked fun hm _ => .road hm _

theorem loadStation_loaded (args : List Byte) (s : State) :
    (loadStation args s).1 = s ∨ Loaded s (loadStation args s).1 := by
  unfold loadStation
  split
  · refine loaded_of_checked fun hm _ => ?_
    split
    · exact .placed hm _ _ rfl
    · exact .removed hm _
  · exact .inl rfl

theorem loadGroup_loaded (args : List Byte) (s : State) :
    (loadGroup args s).1 = s ∨ Loaded s (loadGroup args s).1 := by
  unfold loadGroup
  split
  · refine loaded_of_checked fun hm hpass => .group hm _ _ ?_
    have hmembers := hpass _ (List.mem_cons_of_mem _ List.mem_cons_self)
    simp only [Bool.and_eq_true, decide_eq_true_eq] at hmembers
    exact hmembers.2
  · exact .inl rfl

/-- R129: an enabled record that passes names a station that no other enabled slot names. -/
theorem stationFree_of_slotChecks {store : Store} {g : Seg} {n enabled station address earliest close : Nat}
    (h : ∀ c ∈ slotChecks store g n enabled station address earliest close, c.2 = true)
    (he : (slotOf enabled station address earliest close).enabled = true) :
    stationFree store g (Fin.ofNat 4 (n - 1)) (slotOf enabled station address earliest close).station
      = true := by
  cases hy : yes enabled with
  | false => simp [slotOf, hy, SlotRec.reset] at he
  | true =>
    simp only [slotOf, hy, if_true]
    exact h (3, stationFree store g (Fin.ofNat 4 (n - 1)) (Fin.ofNat 4 station)) (by simp [slotChecks, hy])

theorem loadSlot_loaded (args : List Byte) (s : State) :
    (loadSlot args s).1 = s ∨ Loaded s (loadSlot args s).1 := by
  unfold loadSlot
  split
  · rcases inConfig_cases _ s with heq | ⟨hm, heq⟩
    · exact .inl heq
    · rw [heq]
      split
      · exact .inl rfl
      · extract_lets g
        split
        · exact .inl rfl
        · rcases checkedLoad_eq _ _ s with ⟨n, -, heq⟩ | ⟨hpass, heq⟩
          · exact .inl (congrArg Prod.fst heq)
          · exact heq ▸ .inr (.slot hm _ _ _ (stationFree_of_slotChecks hpass))
  · exact .inl rfl

theorem loadSchedule_loaded (args : List Byte) (s : State) :
    (loadSchedule args s).1 = s ∨ Loaded s (loadSchedule args s).1 := by
  unfold loadSchedule
  split
  · rcases checkedLoad_eq _ _ s with ⟨n, -, heq⟩ | ⟨-, heq⟩
    · exact .inl (congrArg Prod.fst heq)
    · exact heq ▸ .inr (.schedule _ _)
  · exact .inl rfl

/-! ## What keeps a property of the records -/

/-- The speeds a station holds are in their ranges (R10, R17, R18). -/
structure StationFast (x : StationRt) : Prop where
  speed : ∀ z, x.speed = some z → speedFits z
  ring : ringFits x.ring
  accel : x.accel.natAbs ≤ 50000

/-- The speeds a group holds are in their ranges (R46 to R48). -/
structure GroupFast (x : GroupRt) : Prop where
  measured : ∀ z, x.measured = some z → speedFits z
  ramped : ∀ z, x.ramped = some z → speedFits z
  reference : ∀ z, x.reference = some z → speedFits z
  ring : ringFits x.ring
  refAccel : x.refAccel.natAbs ≤ 50000

theorem speedsBounded_iff :
    SpeedsBounded s ↔ (∀ i, StationFast (s.station i)) ∧ (∀ g, GroupFast (s.group g)) ∧
      demandFits s.port.pendingDemand.target s.port.pendingDemand.mass ∧
      demandFits s.demand.target s.demand.mass := by
  constructor
  · rintro ⟨h1, h2, h3, h4, h5, h6, h7, h8, h9, h10⟩
    exact ⟨fun i => ⟨h1 i, h2 i, h3 i⟩, fun g => ⟨h4 g, h5 g, h6 g, h7 g, h8 g⟩, h9, h10⟩
  · rintro ⟨hs, hg, hp, he⟩
    exact ⟨fun i => (hs i).speed, fun i => (hs i).ring, fun i => (hs i).accel, fun g => (hg g).measured,
      fun g => (hg g).ramped, fun g => (hg g).reference, fun g => (hg g).ring, fun g => (hg g).refAccel, hp,
      he⟩

/-- R7: the limits a station's record and its init values give. -/
def LimitsOf (r : StationRec) (x : StationRt) : Prop :=
  x.torqueLimit = torqueLimitOf r x.init ∧ x.overspeedLimit = overspeedLimitOf r x.init

/-- A change of a station's runtime record under its record `r`. -/
structure StationMoves (r : StationRec) (x y : StationRt) : Prop where
  absent : y.state = .absent ↔ x.state = .absent
  limits : LimitsOf r x → LimitsOf r y
  plausibility : x.plausibility ≤ 255 → y.plausibility ≤ 255
  fast : StationFast x → StationFast y

/-- A change of a group's runtime record in state `s`. -/
structure GroupMoves (s : State) (g : Fin 2) (y : GroupRt) : Prop where
  bounded : GroupBounded (s.store.groups.get g) (s.group g) → GroupBounded (s.store.groups.get g) y
  inBand : (s.group g).inBand ≤ 255 → y.inBand ≤ 255
  fast : SpeedsBounded s → GroupFast y

/-- A change of the event queue and its counters (R193). -/
structure ReportMoves (s : State) (x : Report) : Prop where
  order : QueueInOrder s → QueueInOrder (s.setReport x)
  overruns : s.report.overruns ≤ 255 → x.overruns ≤ 255

/-- A change of the effective demand in state `s`. -/
structure DemandMoves (s : State) (d : EffDemand) : Prop where
  age : s.demand.age ≤ 255 → d.age ≤ 255
  range : SpeedsBounded s → demandFits d.target d.mass

/-- A property that every update of a record keeps, each within the record's own moves. -/
structure CoreKeeps (P : State → Prop) : Prop where
  queue : ∀ s q, P s → P (s.setPending q)
  clock : ∀ s t, P s → P (s.setNow t)
  free : ∀ s n, P s → P (s.setFree n)
  port : ∀ s x, PortMoves s.port x → P s → P (s.setPort x)
  pacing : ∀ s x, (PacingCounted s.pacing → PacingCounted x) → P s → P (s.setPacing x)
  mgmt : ∀ s x, (s.mgmt.dropped ≤ 65535 → x.dropped ≤ 65535) → P s → P (s.setMgmt x)
  seg : ∀ s g x, SegMoves (s.seg g) x → P s → P (s.setSeg g x)
  stations : ∀ s x, (∀ i, StationMoves (s.store.stations.get i) (s.station i) (x.get i)) → P s →
    P (s.setStations x)
  demand : ∀ s d, DemandMoves s d → P s → P (s.setDemand d)
  group : ∀ s g x, GroupMoves s g x → P s → P (s.setGroup g x)
  setpoints : ∀ s x, P s → P (s.setSetpoints x)
  directs : ∀ s x, P s → P (s.setDirects x)
  check : ∀ s x, P s → P (s.setCheck x)
  lastCheck : ∀ s x, P s → P (s.setLastCheck x)
  report : ∀ s x, ReportMoves s x → P s → P (s.setReport x)
  restart : ∀ s, P s → P (restartMachines s)

/-- A property that every change of a record keeps, the loads and the hard reset included. -/
structure RecordKeeps (P : State → Prop) : Prop extends CoreKeeps P where
  load : ∀ s t, Loaded s t → P s → P t
  hard : ∀ s, P s → P (hardReset s)

end Sys2Proof.Machine
end

section
/-! SUPPORT. The moves of the records: the event queue under the records written and read, a group's runtime
record through its stages and its changes of state, a station's through its intake. -/

namespace Sys2Proof.Machine

variable {s : State}

/-! ## The event queue (R193) -/

/-- R193: records numbered consecutively, modulo 65,536, up to `next`. -/
def NumberedUpTo (next : BitVec 16) (queue : List Event) : Prop :=
  ∀ j e, queue[j]? = some e → e.sequence + BitVec.ofNat 16 (queue.length - j) = next

theorem numberedUpTo_append {next : BitVec 16} {queue : List Event} {e : Event} (he : e.sequence = next)
    (h : NumberedUpTo next queue) : NumberedUpTo (next + 1) (queue ++ [e]) := by
  intro j e' hj
  rw [List.length_append, List.length_singleton]
  rcases Nat.lt_or_ge j queue.length with hlt | hge
  · rw [List.getElem?_append_left hlt] at hj
    rw [← h j e' hj, show queue.length + 1 - j = queue.length - j + 1 by omega, BitVec.ofNat_add,
      ← BitVec.add_assoc]
    rfl
  · obtain ⟨hlast, rfl⟩ : j = queue.length ∧ e = e' := by
      rw [List.getElem?_append_right hge, List.getElem?_singleton] at hj
      split at hj
      · exact ⟨by omega, by simpa using hj⟩
      · simp at hj
    rw [hlast, he, show queue.length + 1 - queue.length = 1 by omega]
    rfl

theorem numberedUpTo_drop {next : BitVec 16} {queue : List Event} (n : Nat) (h : NumberedUpTo next queue) :
    NumberedUpTo next (queue.drop n) := by
  intro j e hj
  rw [List.getElem?_drop] at hj
  rw [List.length_drop, Nat.sub_sub]
  exact h (n + j) e hj

theorem queueInOrder_iff :
    QueueInOrder s ↔ s.report.queue.length ≤ 32 ∧ NumberedUpTo s.report.nextSequence s.report.queue := Iff.rfl

/-- A change of the register alone. -/
theorem reportMoves_faults (s : State) (m : BitVec 18) : ReportMoves s { s.report with faults := m } :=
  ⟨id, id⟩

theorem reportMoves_drop (s : State) (n : Nat) :
    ReportMoves s { s.report with queue := s.report.queue.drop n } := by
  refine ⟨fun ⟨hlen, hnum⟩ => ⟨?_, numberedUpTo_drop n hnum⟩, id⟩
  exact (List.length_drop ▸ Nat.sub_le _ _ : (s.report.queue.drop n).length ≤ _).trans hlen

theorem reportMoves_append {e : Event} (he : e.sequence = s.report.nextSequence)
    (hl : s.report.queue.length < 32) :
    ReportMoves s { s.report with
      queue := s.report.queue ++ [e], nextSequence := s.report.nextSequence + 1 } :=
  ⟨fun h => ⟨by simpa using hl, numberedUpTo_append he h.2⟩, id⟩

theorem reportMoves_overrun {e : Event} (he : e.sequence = s.report.nextSequence) :
    ReportMoves s { s.report with
      queue := s.report.queue.drop 1 ++ [e], nextSequence := s.report.nextSequence + 1,
      overruns := bump 255 s.report.overruns } := by
  refine ⟨fun ⟨hlen, hnum⟩ => ⟨?_, numberedUpTo_append he (numberedUpTo_drop 1 hnum)⟩, fun _ => bump_le _ _⟩
  have : (s.report.queue.drop 1 ++ [e]).length ≤ s.report.queue.length - 1 + 1 := by simp
  dsimp only [State.setReport_report]
  omega

/-! ## Stations -/

theorem StationMoves.refl (r : StationRec) (x : StationRt) : StationMoves r x x := ⟨Iff.rfl, id, id, id⟩

theorem stationMoves_slew (r : StationRec) (x : StationRt) (m : Int) :
    StationMoves r x { x with slewMemory := m } := ⟨Iff.rfl, id, id, fun h => ⟨h.speed, h.ring, h.accel⟩⟩

theorem stationMoves_withInit (r : StationRec) (x : StationRt) (v : InitValues) :
    StationMoves r x (withInit r v x) :=
  ⟨Iff.rfl, fun _ => ⟨rfl, rfl⟩, id, fun h => ⟨h.speed, h.ring, h.accel⟩⟩

theorem ringFits_nil : ringFits [] := ⟨by simp, by simp⟩

/-- R4: a record without a speed and with an empty ring. -/
theorem stationFast_of_empty {x : StationRt} (hs : x.speed = none) (hr : x.ring = []) (ha : x.accel = 0) :
    StationFast x := ⟨by simp [hs], hr ▸ ringFits_nil, by simp [ha]⟩

theorem stationMoves_waiting {r : StationRec} {x : StationRt} (hx : x.state ≠ .absent) :
    StationMoves r x (waitingRt r x) :=
  ⟨by simp [waitingRt, hx], fun _ => ⟨rfl, rfl⟩, id, fun _ => stationFast_of_empty rfl rfl rfl⟩

theorem stationMoves_motion (r r' : StationRec) (period : Nat) (x : StationRt) :
    StationMoves r x (updateMotion r' period x) := by
  unfold updateMotion
  split
  · refine ⟨Iff.rfl, id, id, fun h => ⟨h.speed, ringFits_pushRing h.ring ?_, ringAccel_le _ _ _⟩⟩
    cases hv : x.speed with
    | none => simp [speedFits]
    | some v => exact h.speed v hv
  · exact ⟨Iff.rfl, id, id, fun h => ⟨h.speed, h.ring, by simp⟩⟩

/-- R8: a station whose intake takes samples: WAITING, LIVE or STALE. -/
def Sampling (x : StationRt) : Prop := x.state ≠ .absent ∧ x.state ≠ .faulted

/-- What station intake does to a station's runtime record, but for the entry to FAULTED (R8 to R16). -/
structure IntakeMoves (x y : StationRt) : Prop where
  state : y.state = x.state ∨ Sampling x ∧ liveOrStale y = true
  init : y.init = x.init ∧ y.torqueLimit = x.torqueLimit ∧ y.overspeedLimit = x.overspeedLimit
  plausibility : x.plausibility ≤ 255 → y.plausibility ≤ 255
  speed : ∀ z, y.speed = some z → x.speed = some z ∨ speedFits z
  ring : y.ring = x.ring ∧ y.accel = x.accel
  slew : y.slewMemory = x.slewMemory

theorem liveOrStale_iff {x : StationRt} : liveOrStale x = true ↔ x.state = .live ∨ x.state = .stale := by
  simp [liveOrStale]

theorem sampling_of_liveOrStale {x : StationRt} (h : liveOrStale x = true) : Sampling x := by
  rcases liveOrStale_iff.1 h with h | h <;> simp [Sampling, h]

theorem stationMoves_intake {r : StationRec} {x y : StationRt} (h : IntakeMoves x y) :
    StationMoves r x y := by
  obtain ⟨hstate, ⟨hinit, htorque, hover⟩, hplaus, hspeed, ⟨hring, haccel⟩, -⟩ := h
  refine ⟨?_, fun hl => ?_, hplaus, fun hf => ⟨fun z hz => ?_, hring ▸ hf.ring, haccel ▸ hf.accel⟩⟩
  · rcases hstate with hs | ⟨⟨hx, -⟩, hy⟩
    · rw [hs]
    · rcases liveOrStale_iff.1 hy with hy | hy <;> simp [hy, hx]
  · rwa [LimitsOf, hinit, htorque, hover]
  · exact (hspeed z hz).elim (hf.speed z) id

theorem stationMoves_faulted {r : StationRec} {x : StationRt} (reason : StationReason)
    (hx : x.state ≠ .absent) : StationMoves r x { x with state := .faulted, reason := reason } :=
  ⟨by simp [hx], id, id, fun h => ⟨h.speed, h.ring, h.accel⟩⟩

/-- R10: a converted speed is a speed. -/
theorem speedFits_surfaceSpeed {r : StationRec} {v : InitValues} {m : Measure} {z : Int}
    (h : surfaceSpeed r v m = some z) : speedFits z := by
  unfold surfaceSpeed at h
  split at h
  · exact Option.some.inj h ▸ clampAbs_bound _ _
  · simp at h

/-! ## Groups -/

theorem groupBounded_rest {r : GroupRec} {x : GroupRt} (ha : x.aEff = 0) (hi : x.integrator = zeros)
    (hf : x.force = zeros) : GroupBounded r x :=
  ⟨by omega, by simp [hf, zeros], by simp [hi, zeros], by simp [ha, hi, hf, zeros]⟩

/-- A change that leaves authority, integrators and forces alone and does not come to rest. -/
theorem groupBounded_of_eq {r : GroupRec} {x y : GroupRt} (ha : y.aEff = x.aEff)
    (hi : y.integrator = x.integrator) (hf : y.force = x.force)
    (hs : y.state = .opened ∨ y.state = .broken → x.state = .opened ∨ x.state = .broken)
    (h : GroupBounded r x) : GroupBounded r y :=
  ⟨by rw [ha]; exact h.authority, by rw [hf, ha]; exact h.force, by rw [hi]; exact h.integrator, fun hy => by
    rw [ha, hi, hf]; exact h.resting (hs hy)⟩

/-- The integrators of an engaged group put to 0. -/
theorem groupBounded_zeroed {r : GroupRec} {x y : GroupRt} (ha : y.aEff = x.aEff)
    (hi : y.integrator = zeros) (hf : y.force = x.force) (hs : y.state ≠ .opened ∧ y.state ≠ .broken)
    (h : GroupBounded r x) : GroupBounded r y :=
  ⟨by rw [ha]; exact h.authority, by rw [hf, ha]; exact h.force, by simp [hi, zeros], fun hy => by
    simp [hs.1, hs.2] at hy⟩

/-- A change that leaves the speeds alone, but for a ramped target that ends. -/
theorem GroupFast.of_eq {x y : GroupRt} (h : GroupFast x) (hm : y.measured = x.measured)
    (hr : y.ramped = x.ramped ∨ y.ramped = none) (hf : y.reference = x.reference) (hg : y.ring = x.ring)
    (ha : y.refAccel = x.refAccel) : GroupFast y :=
  ⟨hm ▸ h.measured, hr.elim (fun hr => hr ▸ h.ramped) fun hr => by simp [hr], hf ▸ h.reference,
    hg ▸ h.ring, ha ▸ h.refAccel⟩

theorem SpeedsBounded.group (h : SpeedsBounded s) (g : Fin 2) : GroupFast (s.group g) :=
  (speedsBounded_iff.1 h).2.1 g

theorem SpeedsBounded.station (h : SpeedsBounded s) (i : Fin 4) : StationFast (s.station i) :=
  (speedsBounded_iff.1 h).1 i

theorem groupMoves_opened (g : Fin 2) (reason : GroupReason) :
    GroupMoves s g (openedRt reason (s.group g)) :=
  ⟨fun _ => groupBounded_rest rfl rfl rfl, fun _ => Nat.zero_le _, fun h =>
    (h.group g).of_eq rfl (.inr rfl) rfl rfl rfl⟩

theorem groupMoves_broken (g : Fin 2) (reason : GroupReason) :
    GroupMoves s g (brokenRt reason (s.group g)) :=
  ⟨fun _ => groupBounded_rest rfl rfl rfl, id, fun h =>
    (h.group g).of_eq rfl (.inl rfl) rfl rfl rfl⟩

theorem groupMoves_restartCapture (g : Fin 2) : GroupMoves s g (restartCaptureRt (s.group g)) :=
  ⟨groupBounded_zeroed rfl rfl rfl ⟨by simp [restartCaptureRt], by simp [restartCaptureRt]⟩,
    fun _ => Nat.zero_le _, fun h => (h.group g).of_eq rfl (.inr rfl) rfl rfl rfl⟩

theorem groupMoves_engaged (g : Fin 2) : GroupMoves s g (engagedRt (s.group g)) :=
  ⟨groupBounded_zeroed rfl rfl rfl ⟨by simp [engagedRt], by simp [engagedRt]⟩,
    fun _ => Nat.zero_le _, fun h => (h.group g).of_eq rfl (.inr rfl) rfl rfl rfl⟩

theorem groupMoves_config {g : Fin 2} (hb : (s.group g).state = .broken) :
    GroupMoves s g { s.group g with state := .opened, reason := .config } :=
  ⟨groupBounded_of_eq rfl rfl rfl fun _ => .inr hb, id, fun h =>
    (h.group g).of_eq rfl (.inl rfl) rfl rfl rfl⟩

/-! ### The reference stage -/

theorem speedFits_supplied (h : SpeedsBounded s) {i : Fin 4} {z : Int}
    (hz : suppliedSpeed (s.station i) = some z) : speedFits z := by
  unfold suppliedSpeed at hz
  split at hz
  · exact (h.station i).speed z hz
  · simp at hz

theorem speedFits_measuredNow (h : SpeedsBounded s) {g : Fin 2} {z : Int}
    (hz : measuredNow s g = some z) : speedFits z := by
  unfold measuredNow at hz
  extract_lets r at hz
  split at hz
  · split at hz
    · simp at hz
    · refine Option.some.inj hz ▸ speedFits_mean fun v hv => ?_
      obtain ⟨i, -, hi⟩ := List.mem_filterMap.1 hv
      exact speedFits_supplied h hi
  · exact speedFits_supplied h hz

theorem speedFits_or {a b : Option Int} (ha : ∀ z, a = some z → speedFits z)
    (hb : ∀ z, b = some z → speedFits z) : ∀ z, a.or b = some z → speedFits z := by
  cases a with
  | none => simpa using hb
  | some v => simpa using ha

theorem speedFits_target (h : SpeedsBounded s) : speedFits ((s.demand.target * 1000 : Nat) : Int) := by
  have := h.effective.1
  unfold speedFits
  omega

theorem speedFits_rampedNow (h : SpeedsBounded s) {g : Fin 2} {measured : Option Int}
    (hm : ∀ z, measured = some z → speedFits z) :
    ∀ z, rampedNow s g measured = some z → speedFits z := by
  unfold rampedNow
  split
  · exact hm
  case h_2 current hc =>
    rintro z hz
    exact Option.some.inj hz ▸ speedFits_ramp (speedFits_target h) ((h.group g).ramped current hc)

theorem groupFast_takeReferences (h : SpeedsBounded s) (g : Fin 2) : GroupFast (takeReferences s g) := by
  have hnow : ∀ z, measuredNow s g = some z → speedFits z := fun _ => speedFits_measuredNow h
  have hg := h.group g
  have hmeasured := speedFits_or hnow hg.measured
  unfold takeReferences
  extract_lets x now measured r
  split
  · exact ⟨hmeasured, speedFits_rampedNow h hmeasured, speedFits_rampedNow h hmeasured, hg.ring, hg.refAccel⟩
  · exact ⟨hmeasured, by simp, speedFits_or hnow hg.reference, hg.ring, hg.refAccel⟩

theorem groupFast_pushReference {x : GroupRt} (r : GroupRec) (period : Nat) (h : GroupFast x) :
    GroupFast (pushReference r period x) := by
  unfold pushReference
  split
  case h_1 z hz =>
    exact ⟨h.measured, h.ramped, h.reference, ringFits_pushRing h.ring (h.reference z hz),
      ringAccel_le _ _ _⟩
  case h_2 => exact ⟨h.measured, h.ramped, h.reference, h.ring, by simp⟩

/-- What the reference stage leaves of a group's record. -/
theorem takeReferences_keeps (s : State) (g : Fin 2) :
    (takeReferences s g).state = (s.group g).state ∧ (takeReferences s g).aEff = (s.group g).aEff ∧
      (takeReferences s g).integrator = (s.group g).integrator ∧
      (takeReferences s g).force = (s.group g).force ∧ (takeReferences s g).inBand = (s.group g).inBand := by
  unfold takeReferences
  extract_lets x now measured r
  split <;> exact ⟨rfl, rfl, rfl, rfl, rfl⟩

theorem pushReference_keeps (r : GroupRec) (period : Nat) (x : GroupRt) :
    (pushReference r period x).state = x.state ∧ (pushReference r period x).aEff = x.aEff ∧
      (pushReference r period x).integrator = x.integrator ∧ (pushReference r period x).force = x.force ∧
      (pushReference r period x).inBand = x.inBand := by
  unfold pushReference
  split <;> exact ⟨rfl, rfl, rfl, rfl, rfl⟩

theorem groupMoves_reference (r : GroupRec) (period : Nat) (g : Fin 2) :
    GroupMoves s g (statusOr s g (pushReference r period (takeReferences s g))) := by
  obtain ⟨hs, ha, hi, hf, hb⟩ := takeReferences_keeps s g
  obtain ⟨hs', ha', hi', hf', hb'⟩ := pushReference_keeps r period (takeReferences s g)
  refine ⟨groupBounded_of_eq (ha'.trans ha) (hi'.trans hi) (hf'.trans hf) ?_, ?_, fun h => ?_⟩
  · rw [show (statusOr s g (pushReference r period (takeReferences s g))).state = _ from hs'.trans hs]
    exact id
  · rw [show (statusOr s g (pushReference r period (takeReferences s g))).inBand = _ from hb'.trans hb]
    exact id
  · exact (groupFast_pushReference r period (groupFast_takeReferences h g)).of_eq rfl (.inl rfl) rfl rfl rfl

/-! ### The lock stage -/

theorem engaged_iff {x : GroupRt} :
    engaged x = true ↔ x.state = .capturing ∨ x.state = .locked ∨ x.state = .slipping := by
  simp [engaged, or_assoc]

theorem setAuthority_le (r : GroupRec) (x : GroupRt) : (setAuthority r x).aEff ≤ r.authority := by
  unfold setAuthority
  split
  · refine Nat.div_le_of_le_mul ?_
    rw [Nat.mul_comm]
    exact Nat.mul_le_mul_right _ (min_le_right _ _)
  · exact le_rfl
  · exact le_rfl
  · exact Nat.zero_le _
  · exact Nat.zero_le _

/-- What R51 leaves of a group's record. -/
theorem setAuthority_keeps (r : GroupRec) (x : GroupRt) :
    (setAuthority r x).state = x.state ∧ (setAuthority r x).integrator = x.integrator ∧
      (setAuthority r x).inBand = x.inBand ∧ (GroupFast x → GroupFast (setAuthority r x)) := by
  unfold setAuthority
  split <;> exact ⟨rfl, rfl, rfl, fun h => h.of_eq rfl (.inl rfl) rfl rfl rfl⟩

theorem setAuthority_of_rest {r : GroupRec} {x : GroupRt} (h : engaged x = false) :
    (setAuthority r x).aEff = 0 := by
  unfold setAuthority
  split <;> simp_all [engaged]

/-- R52, R53: integrator within its clamp, force within the authority. -/
theorem correct_bounded {r : GroupRec} (period aEff : Nat) (e : Int) {i : Int}
    (hi : i.natAbs ≤ r.integratorClamp * 1000) :
    (correct r period aEff e i).1.natAbs ≤ r.integratorClamp * 1000 ∧
      (correct r period aEff e i).2.natAbs ≤ aEff := by
  unfold correct
  dsimp only
  split
  · exact ⟨hi, clampAbs_bound _ _⟩
  · exact ⟨clampAbs_bound _ _, clampAbs_bound _ _⟩

theorem lockMember_bounded {r : GroupRec} {x : GroupRt} (i : Fin 4)
    (hi : (x.integrator.get i).natAbs ≤ r.integratorClamp * 1000) :
    (lockMember s r x i).2.1.natAbs ≤ r.integratorClamp * 1000 ∧
      (lockMember s r x i).2.2.natAbs ≤ x.aEff := by
  unfold lockMember
  split
  · split
    · simp
    · exact correct_bounded _ _ _ hi
  · simp

theorem groupBounded_engagedForces {r : GroupRec} {x : GroupRt} (hx : engaged x = true)
    (ha : x.aEff ≤ r.authority) (hi : ∀ i, (x.integrator.get i).natAbs ≤ r.integratorClamp * 1000) :
    GroupBounded r (engagedForces s r x) := by
  refine ⟨ha, fun i => ?_, fun i => ?_, fun hrest => ?_⟩
  · exact (Four.get_tabulate _ i).symm ▸ (lockMember_bounded i (hi i)).2
  · exact (Four.get_tabulate _ i).symm ▸ (lockMember_bounded i (hi i)).1
  · rcases hrest with hrest | hrest <;> simp_all [engaged, engagedForces, withMetrics]

theorem groupMoves_engagedForces (g : Fin 2) (r : GroupRec) (hr : r = s.store.groups.get g)
    (he : engaged (s.group g) = true) :
    GroupMoves s g (engagedForces s r (setAuthority r (s.group g))) := by
  subst hr
  obtain ⟨hs, hi, hb, hfast⟩ := setAuthority_keeps (s.store.groups.get g) (s.group g)
  refine ⟨fun h => groupBounded_engagedForces ?_ (setAuthority_le _ _) (hi ▸ h.integrator), ?_, fun h => ?_⟩
  · rwa [engaged, hs]
  · exact fun h => hb.symm ▸ h
  · exact (hfast (h.group g)).of_eq rfl (.inl rfl) rfl rfl rfl

theorem groupMoves_restingForces (g : Fin 2) (r : GroupRec) (he : engaged (s.group g) = false) :
    GroupMoves s g (restingForces s r (setAuthority r (s.group g))) := by
  obtain ⟨hs, hi, hb, hfast⟩ := setAuthority_keeps r (s.group g)
  refine ⟨fun _ => groupBounded_rest (setAuthority_of_rest he) rfl rfl, fun h => ?_, fun h => ?_⟩
  · exact hb.symm ▸ h
  · exact (hfast (h.group g)).of_eq rfl (.inl rfl) rfl rfl rfl

/-- A change of state, reason, counts and metrics of a group that stays or becomes engaged. -/
theorem GroupMoves.relabel {g : Fin 2} {x : GroupRt} (hx : GroupMoves s g x) (st : GroupState)
    (re : GroupReason) (sr sc rr mi ib : Nat)
    (hs : st = .opened ∨ st = .broken → x.state = .opened ∨ x.state = .broken)
    (hi : x.inBand ≤ 255 → ib ≤ 255) :
    GroupMoves s g { x with
      state := st, reason := re, slipRun := sr, slipCycles := sc, recoverRun := rr, maxIntegrator := mi,
      inBand := ib } :=
  ⟨fun h => groupBounded_of_eq (x := x) rfl rfl rfl hs (hx.bounded h), fun h => hi (hx.inBand h), fun h =>
    (hx.fast h).of_eq rfl (.inl rfl) rfl rfl rfl⟩

theorem groupMoves_judgeLock {g : Fin 2} {x : GroupRt} (r : GroupRec) (hx : GroupMoves s g x) :
    GroupMoves s g (judgeLock r x).1 := by
  unfold judgeLock
  split
  · refine hx.relabel x.state x.reason x.slipRun x.slipCycles x.recoverRun x.maxIntegrator _ id fun h => ?_
    split
    · exact bump_le _ _
    · exact Nat.zero_le _
  · unfold countSlip
    split
    · exact hx
    · exact hx.relabel x.state x.reason _ x.slipCycles x.recoverRun x.maxIntegrator x.inBand id id
  · unfold countRecovery
    dsimp only
    split
    · exact hx.relabel x.state x.reason x.slipRun _ x.recoverRun x.maxIntegrator x.inBand id id
    · exact hx.relabel x.state x.reason x.slipRun _ _ x.maxIntegrator x.inBand id id
  · exact hx
  · exact hx

end Sys2Proof.Machine
end

section
/-! SUPPORT. What the record moves keep, every step keeps: station intake as moves of one station and entries
to FAULTED, then the stages of a computation point, the entry to HALTED and the requests. -/

namespace Sys2Proof.Machine

variable {s : State} {P : State → Prop} {i : Fin 4}

/-! ## Station intake -/

/-- A property that one station's intake keeps, by its parts. -/
structure IntakeKeeps (P : State → Prop) (i : Fin 4) : Prop where
  station : ∀ s x, IntakeMoves (s.station i) x → P s → P (s.setStation i x)
  event : ∀ s b, P s → P (writeEvent b s)
  faulted : ∀ s r, Sampling (s.station i) → P s → P (enterFaulted i r s)

theorem setStation_setStation (s : State) (i : Fin 4) (x y : StationRt) :
    (s.setStation i x).setStation i y = s.setStation i y := by
  simp [State.setStation, State.setStations, Four.set_set]

/-- A change that leaves state, init values, limits, plausibility count, ring, acceleration and slew memory
alone. -/
theorem intakeMoves_of_eq {x y : StationRt} (hstate : y.state = x.state) (hinit : y.init = x.init)
    (htorque : y.torqueLimit = x.torqueLimit) (hover : y.overspeedLimit = x.overspeedLimit)
    (hplaus : y.plausibility = x.plausibility) (hspeed : ∀ z, y.speed = some z → x.speed = some z ∨ speedFits z)
    (hring : y.ring = x.ring) (haccel : y.accel = x.accel) (hslew : y.slewMemory = x.slewMemory) : IntakeMoves x y :=
  ⟨.inl hstate, ⟨hinit, htorque, hover⟩, hplaus ▸ id, hspeed, ⟨hring, haccel⟩, hslew⟩

theorem intakeMoves_overspeed (x : StationRt) (n : Nat) : IntakeMoves x { x with overspeed := n } :=
  intakeMoves_of_eq rfl rfl rfl rfl rfl (fun _ => .inl) rfl rfl rfl

theorem intakeMoves_reading (m : Measure) (x : StationRt) : IntakeMoves x (takeReading m x) :=
  intakeMoves_of_eq rfl rfl rfl rfl rfl (fun _ => .inl) rfl rfl rfl

theorem intakeMoves_speedOr {r : StationRec} {v : InitValues} {m : Measure} (x : StationRt) :
    IntakeMoves x (speedOr (surfaceSpeed r v m) x) := by
  cases hv : surfaceSpeed r v m with
  | none => exact intakeMoves_of_eq rfl rfl rfl rfl rfl (fun _ => .inl) rfl rfl rfl
  | some v =>
    exact intakeMoves_of_eq rfl rfl rfl rfl rfl
      (fun z hz => .inr (Option.some.inj hz ▸ speedFits_surfaceSpeed hv)) rfl rfl rfl

theorem IntakeMoves.trans {x y z : StationRt} (h : IntakeMoves x y) (h' : IntakeMoves y z) :
    IntakeMoves x z := by
  obtain ⟨hs, ⟨hi, ht, ho⟩, hp, hv, ⟨hr, ha⟩, hm⟩ := h
  obtain ⟨hs', ⟨hi', ht', ho'⟩, hp', hv', ⟨hr', ha'⟩, hm'⟩ := h'
  refine ⟨?_, ⟨hi'.trans hi, ht'.trans ht, ho'.trans ho⟩, hp' ∘ hp, fun w hw => ?_,
    ⟨hr'.trans hr, ha'.trans ha⟩, hm'.trans hm⟩
  · rcases hs' with hs' | ⟨hy, hz⟩
    · refine hs.imp hs'.trans fun ⟨hx, hy⟩ => ⟨hx, ?_⟩
      rwa [liveOrStale, hs']
    · refine .inr ⟨?_, hz⟩
      rcases hs with hs | ⟨hx, -⟩
      · rwa [Sampling, ← hs]
      · exact hx
  · exact (hv' w hw).elim (hv w) .inr

section Intake

variable (h : IntakeKeeps P i)
include h

theorem intake_overspeedTest (hx : Sampling (s.station i)) (hs : P s) :
    P (overspeedTest i s) := by
  unfold overspeedTest
  dsimp only
  split
  · have hrun := h.station s _ (intakeMoves_overspeed (s.station i) ((s.station i).overspeed + 1)) hs
    split
    · exact h.faulted _ _ (by simpa [Sampling] using hx) hrun
    · exact hrun
  · exact h.station _ _ (intakeMoves_overspeed _ _) hs

theorem intake_noSample (hx : Sampling (s.station i)) (hs : P s) : P (noSample i s) := by
  unfold noSample
  dsimp only
  split
  · have hstale := h.station s { s.station i with state := .stale, stale := (s.station i).stale + 1 }
      ⟨.inr ⟨hx, by simp [liveOrStale]⟩, ⟨rfl, rfl, rfl⟩, id, fun _ => .inl, ⟨rfl, rfl⟩, rfl⟩ hs
    split
    · exact h.faulted _ _ (by simp [Sampling]) hstale
    · exact intake_overspeedTest h (by simp [Sampling]) hstale
  · exact hs

theorem intake_adoptSample {v : Int} (hv : speedFits v) (hx : Sampling (s.station i)) (hs : P s) :
    P (adoptSample i v s) := by
  have hlive := h.station s { s.station i with state := .live, speed := some v, stale := 0 }
    ⟨.inr ⟨hx, by simp [liveOrStale]⟩, ⟨rfl, rfl, rfl⟩, id, fun _ hz => .inr (Option.some.inj hz ▸ hv),
      ⟨rfl, rfl⟩, rfl⟩ hs
  unfold adoptSample
  dsimp only
  split
  · exact intake_overspeedTest h (by simp [Sampling]) (h.event _ _ hlive)
  · exact intake_overspeedTest h (by simp [Sampling]) hlive

theorem intake_sample {v : Int} (hv : speedFits v) (hx : Sampling (s.station i)) (hs : P s) :
    P (sample i v s) := by
  unfold sample
  dsimp only
  split
  · exact intake_noSample h (by simpa [Sampling] using hx)
      (h.station s _ ⟨.inl rfl, ⟨rfl, rfl, rfl⟩, fun _ => bump_le _ _, fun _ => .inl, ⟨rfl, rfl⟩, rfl⟩ hs)
  · exact intake_adoptSample h hv hx hs

theorem intake_intakeRecord (m : Measure) (hx : Sampling (s.station i)) (hs : P s) :
    P (intakeRecord i m s) := by
  have hread := h.station s _ (intakeMoves_reading m (s.station i)) hs
  have hx' : Sampling ((s.setStation i (takeReading m (s.station i))).station i) := by
    simpa [Sampling, takeReading] using hx
  unfold intakeRecord
  dsimp only
  split
  · rw [setStation_setStation, State.station_setStation, if_pos rfl]
    have hmove := (intakeMoves_reading m (s.station i)).trans
      (intakeMoves_speedOr (r := s.store.stations.get i) (v := (s.station i).init) (m := m) _)
    refine h.faulted _ _ ?_ (h.station s _ hmove hs)
    rw [State.station_setStation, if_pos rfl]
    rcases hmove.state with hst | ⟨-, hst⟩
    · rwa [Sampling, hst]
    · exact sampling_of_liveOrStale hst
  · split
    · split
      case h_1 v hv => exact intake_sample h (speedFits_surfaceSpeed hv) hx' hread
      case h_2 => exact intake_noSample h hx' hread
    · exact intake_noSample h hx' hread

theorem intake_intakeStation (hs : P s) : P (intakeStation s i) := by
  unfold intakeStation
  split
  · split
    · exact hs
    · unfold intakeFaulted
      split
      · exact h.station _ _ ((intakeMoves_reading _ _).trans (intakeMoves_speedOr _)) hs
      · exact hs
    all_goals
      case _ hst =>
        have hx : Sampling (s.station i) := by simp [Sampling, hst]
        unfold intakeRunning
        split
        · exact h.faulted _ _ hx hs
        · split
          · exact intake_intakeRecord h _ hx hs
          · exact intake_noSample h hx hs
  · exact hs

end Intake

theorem intake_stationIntake (h : ∀ i, IntakeKeeps P i) (hs : P s) : P (stationIntake s) :=
  foldl_invariant P _ (fun _ i hu => intake_intakeStation (h i) hu) four s hs

end Sys2Proof.Machine
end

section
/-! SUPPORT. What every move of a record keeps, every step keeps: the stages of a computation point, the entry
to HALTED and the requests, from the moves they make. -/

namespace Sys2Proof.Machine

variable {s : State} {P : State → Prop}

theorem engaged_setAuthority (r : GroupRec) (x : GroupRt) : engaged (setAuthority r x) = engaged x := by
  rw [engaged, (setAuthority_keeps r x).1, engaged]

section Core

variable (h : CoreKeeps P)
include h

/-! ### Single records -/

theorem core_setStation (i : Fin 4) (x : StationRt)
    (hx : StationMoves (s.store.stations.get i) (s.station i) x) (hs : P s) : P (s.setStation i x) := by
  refine h.stations _ _ (fun j => ?_) hs
  rw [Four.get_set]
  split
  case isTrue hj => exact hj ▸ hx
  case isFalse => exact .refl _ _

theorem core_writeEvent (b : EventBody) (hs : P s) : P (writeEvent b s) := by
  unfold writeEvent
  dsimp only
  split
  case isTrue hl => exact h.report _ _ (reportMoves_append rfl hl) hs
  case isFalse =>
    exact h.report _ _ (reportMoves_faults _ _) (h.report _ _ (reportMoves_overrun rfl) hs)

theorem core_latch (f : Flag) (hs : P s) : P (latch f s) := h.report _ _ (reportMoves_faults _ _) hs

theorem core_segKeeps : SegKeeps P where
  seg := h.seg
  init _ i _ hs := core_setStation h i _ (stationMoves_withInit _ _ _) hs
  slew _ i hs := core_setStation h i _ (stationMoves_slew _ _ _) hs
  event _ b hs := core_writeEvent h b hs
  latch _ f hs := core_latch h f hs
  free := h.free

/-! ### DIRECTs, the check, changes of a group's state -/

theorem core_endDirect (c : EndCause) (i : Fin 4) (hs : P s) : P (endDirect c i s) := by
  unfold endDirect
  split
  · exact core_writeEvent h _ (h.directs _ _ hs)
  · exact hs

theorem core_endDirects (c : EndCause) (hs : P s) : P (endDirects c s) :=
  foldl_invariant P _ (fun _ i hu => core_endDirect h c i hu) four s hs

theorem core_endCheck (r : CheckResult) (q : CheckReason) (o : CheckOutcome) (hs : P s) :
    P (endCheck r q o s) :=
  core_writeEvent h _ (h.lastCheck _ _ (h.check _ _ hs))

theorem core_abortCheck (q : CheckReason) (hs : P s) : P (abortCheck q s) := by
  unfold abortCheck
  split
  · exact core_endCheck h _ _ _ hs
  · exact hs

theorem core_openGroup (g : Fin 2) (r : GroupReason) (hs : P s) : P (openGroup g r s) :=
  core_writeEvent h _ (h.group _ _ _ (groupMoves_opened g r) hs)

theorem core_breakGroup (g : Fin 2) (r : GroupReason) (hs : P s) : P (breakGroup g r s) :=
  core_writeEvent h _ (core_latch h _ (h.group _ _ _ (groupMoves_broken g r) hs))

/-! ### The entry to HALTED (R122) -/

theorem core_enterHalted (r : HaltReason) (c : Bool) (hs : P s) : P (enterHalted r c s) := by
  have hbecome : P (becomeHalted r s) := by
    have hevent := core_writeEvent h (.pacing (haltEventReason r))
      (h.pacing s { s.pacing with state := .halted, haltReason := r, haltPending := false } id hs)
    unfold becomeHalted
    dsimp only
    split
    · exact core_latch h _ hevent
    · exact hevent
  have hgroup {u : State} (g : Fin 2) (hu : P u) : P (haltGroup g u) := by
    unfold haltGroup
    split
    · exact core_openGroup h g _ hu
    · exact hu
  exact keeps_bothSegments (core_segKeeps h) _ _
    (hgroup 1 (hgroup 0 (core_abortCheck h _ (core_endDirects h _ hbecome))))

/-! ### The computation point -/

theorem core_demandStage (hs : P s) : P (demandStage s).1 := by
  have keep {u : State} (hu : P u) : P (keepMode u) :=
    h.demand _ _ ⟨id, fun hb => hb.effective⟩ hu
  refine keep ?_
  unfold demandIntake
  split
  · have hadopt := h.port
      (s.setDemand { adoptDemand s.port.pendingDemand s.demand with lost := false })
      { s.port with pendingDemand := { s.port.pendingDemand with arrived := false } }
      (portMoves_of_eq rfl rfl rfl rfl)
      (h.demand s { adoptDemand s.port.pendingDemand s.demand with lost := false }
        ⟨fun _ => Nat.zero_le _, fun hb => hb.pending⟩ hs)
    unfold adopt
    dsimp only
    split
    · exact core_writeEvent h _ hadopt
    · exact hadopt
  · have haged := h.demand s { s.demand with age := bump 255 s.demand.age }
      ⟨fun _ => bump_le _ _, fun hb => hb.effective⟩ hs
    unfold ageDemand loseDemand
    split
    · exact core_writeEvent h _ (core_latch h _ (h.demand _ _ ⟨id, fun hb => hb.effective⟩ haged))
    · exact haged

theorem core_enterFaulted (i : Fin 4) (r : StationReason) (hx : (s.station i).state ≠ .absent) (hs : P s) :
    P (enterFaulted i r s) :=
  core_endDirect h _ _ (core_writeEvent h _ (core_latch h _
    (core_setStation h i _ (stationMoves_faulted r hx) hs)))

theorem core_intakeKeeps (i : Fin 4) : IntakeKeeps P i where
  station _ x hx hs := core_setStation h i x (stationMoves_intake hx) hs
  event _ b hs := core_writeEvent h b hs
  faulted _ r hx hs := core_enterFaulted h i r hx.1 hs

theorem core_motionStage (hs : P s) : P (motionStage s) :=
  h.stations _ _ (fun i => by rw [Four.get_tabulate]; exact stationMoves_motion _ _ _ _) hs

theorem core_referenceStage (c : Bool) (g : Fin 2) (hs : P s) : P (referenceStage c g s) := by
  have htest {u : State} (hu : P u) : P (memberTest g u) := by
    unfold memberTest
    split
    · exact core_breakGroup h g _ hu
    · exact hu
  have hchange {u : State} (hu : P u) : P (applyReferenceChange c g u) := by
    unfold applyReferenceChange
    split
    · exact core_writeEvent h _ (h.group _ _ _ (groupMoves_restartCapture g) hu)
    · exact hu
  unfold referenceStage
  dsimp only
  split
  · exact hs
  · exact h.group _ _ _ (groupMoves_reference _ _ g) (hchange (htest hs))

theorem core_carryVerdict {g : Fin 2} {x : GroupRt} (v : LockVerdict) (hx : GroupMoves s g x) (hs : P s) :
    P (carryVerdict g x v s) := by
  unfold carryVerdict
  split
  · exact h.group _ _ _ hx hs
  · exact core_writeEvent h _ (h.group _ _ _
      (hx.relabel .locked _ 0 x.slipCycles x.recoverRun x.maxIntegrator x.inBand (by simp) id) hs)
  · exact core_writeEvent h _ (h.group _ _ _
      (hx.relabel .slipping .slip x.slipRun 0 0 x.maxIntegrator x.inBand (by simp) id) hs)
  · exact core_breakGroup h g _ (h.group _ _ _
      (hx.relabel x.state x.reason x.slipRun x.slipCycles x.recoverRun 0 x.inBand id id) hs)

theorem core_lockStage (g : Fin 2) (hs : P s) : P (lockStage g s) := by
  unfold lockStage
  dsimp only
  split
  · exact hs
  · rw [engaged_setAuthority]
    split
    case isTrue he =>
      exact core_carryVerdict h _ (groupMoves_judgeLock _ (groupMoves_engagedForces g _ rfl he)) hs
    case isFalse he =>
      exact h.group _ _ _ (groupMoves_restingForces g _ (Bool.eq_false_iff.2 he)) hs

theorem core_probeStage (hs : P s) : P (probeStage s).1 := by
  unfold probeStage
  split
  · split
    · have hpeak : P (updatePeak s) := h.check _ _ hs
      dsimp only
      split
      · unfold judgeCheck
        split
        · exact core_endCheck h _ _ _ hpeak
        · exact core_endCheck h _ _ _ (core_latch h _ hpeak)
      · exact h.check _ _ hpeak
    · exact core_endCheck h _ _ _ hs
  · exact hs

theorem core_countDirect (i : Fin 4) (hs : P s) : P (countDirect s i) := by
  unfold countDirect
  split
  · dsimp only
    split
    · exact core_endDirect h _ _ (h.directs _ _ hs)
    · exact h.directs _ _ hs
  · exact hs

theorem core_assembly (forces : Four (Int × Int)) (probe : Four Int) (hs : P s) :
    P (assembly forces probe s) := by
  refine foldl_invariant P _ (fun _ i hu => core_countDirect h i hu) four _ ?_
  exact h.stations _ _ (fun i => by rw [Four.get_tabulate]; exact stationMoves_slew _ _ _)
    (h.setpoints _ _ hs)

theorem core_perCycleUplink (hs : P s) : P (perCycleUplink s) := by
  unfold perCycleUplink
  split
  · exact h.port _ _ ⟨fun hp => ⟨hp.1, bump_le _ _⟩, id⟩ hs
  · exact keeps_emptyReported (core_segKeeps h) _
      (h.mgmt _ _ id (h.port _ _ (portMoves_of_eq rfl rfl rfl rfl) hs))

theorem core_computePoint (hs : P s) : P (computePoint s) := by
  have hcut : P (s.setPacing { s.pacing with cpDue := none }) := h.pacing _ _ id hs
  have hmeasure : P (measureStages (s.setPacing { s.pacing with cpDue := none })) :=
    core_referenceStage h _ 1 (core_referenceStage h _ 0 (core_motionStage h
      (intake_stationIntake (core_intakeKeeps h) (core_demandStage h hcut))))
  exact core_perCycleUplink h (core_assembly h _ _ (core_probeStage h
    (core_lockStage h 1 (core_lockStage h 0 hmeasure))))

/-! ### The requests -/

theorem core_clearFlag (mask : BitVec 18) (f : Flag) (hs : P s) : P (clearFlag mask s f) := by
  unfold clearFlag
  split
  · have htreat : P (treatFlag f s) := by
      unfold treatFlag
      split
      · exact h.report _ _ ⟨id, fun _ => Nat.zero_le _⟩ hs
      · exact keeps_clearJam (core_segKeeps h) _ hs
      · unfold retest
        split
        case isTrue hx => exact core_setStation h _ _ (stationMoves_waiting (by simp [hx.1])) hs
        case isFalse => exact hs
      all_goals exact hs
    dsimp only
    split
    · exact htreat
    · exact h.report _ _ (reportMoves_faults _ _) htreat
  · exact hs

theorem core_clearFaults (args : List Byte) (hs : P s) : P (clearFaults args s).1 := by
  unfold clearFaults
  split
  · split
    · exact hs
    · exact foldl_invariant P _ (fun _ _ hu => core_clearFlag h _ _ hu) _ _ hs
  · exact hs

theorem core_enterConfig (hs : P s) : P (enterConfig s).1 := by
  have hgroup {u : State} (g : Fin 2) (hu : P u) : P (configGroup g u) := by
    unfold configGroup
    split
    case isTrue hb => exact core_writeEvent h _ (h.group _ _ _ (groupMoves_config hb) hu)
    case isFalse => exact hu
  unfold enterConfig
  split
  · exact hs
  · split
    · exact hs
    · split
      · exact hs
      · exact h.stations _ _ (fun i => by rw [Four.get_tabulate]; exact stationMoves_slew _ _ _)
          (h.setpoints _ _ (hgroup 1 (hgroup 0 (core_writeEvent h _ (h.mgmt s _ id hs)))))

theorem core_enterOperate (hs : P s) : P (enterOperate s).1 := by
  unfold enterOperate
  split
  · exact hs
  · split
    · exact hs
    · exact core_writeEvent h _ (h.mgmt s _ id hs)

theorem core_engage (args : List Byte) (hs : P s) : P (engage args s).1 := by
  unfold engage
  split
  · split
    · exact hs
    · split
      · exact hs
      · dsimp only
        split
        · exact hs
        · exact core_writeEvent h _ (h.group _ _ _ (groupMoves_engaged _) hs)
  · exact hs

theorem core_release (args : List Byte) (hs : P s) : P (release args s).1 := by
  unfold release
  split
  · split
    · exact hs
    · dsimp only
      split
      · exact hs
      · refine core_openGroup h _ _ ?_
        split
        · exact core_abortCheck h _ hs
        · exact hs
  · exact hs

theorem core_startCheck (args : List Byte) (hs : P s) : P (startCheck args s).1 := by
  unfold startCheck
  dsimp only
  split
  · split
    · exact hs
    · split_ifs <;> first | exact hs | exact h.check _ _ hs
  · exact hs

theorem core_directTorque (args : List Byte) (hs : P s) : P (directTorque args s).1 := by
  unfold directTorque
  split
  · dsimp only
    split
    · exact hs
    · split
      · exact hs
      · split
        · exact core_endDirect h _ _ hs
        · split
          · exact hs
          · exact core_writeEvent h _ (h.directs _ _ (core_endDirect h _ _ hs))
  · exact hs

theorem core_stopRequest (hs : P s) : P (stopRequest s).1 := by
  unfold stopRequest
  split
  · exact hs
  all_goals first | exact hs | exact core_enterHalted h _ _ (h.pacing _ _ id hs)

theorem core_haltRequest (hs : P s) : P (haltRequest s).1 := by
  unfold haltRequest
  split
  · exact hs
  all_goals first | exact hs | exact h.pacing _ _ id hs

theorem core_requestBody (code : Byte) (args : List Byte) (hload : ∀ t, Loaded s t → P t) (hs : P s) :
    P (requestBody code args s).1 := by
  have load {body : Request} (hb : (body s).1 = s ∨ Loaded s (body s).1) : P (body s).1 := by
    rcases hb with hb | hb
    · exact hb.symm ▸ hs
    · exact hload _ hb
  exact requestBody_cases (Q := fun body => P (body s).1) code args
    (load (loadCell_loaded args s)) (load (loadRoadload_loaded args s)) (load (loadStation_loaded args s))
    (load (loadGroup_loaded args s)) (load (loadSlot_loaded args s)) (load (loadSchedule_loaded args s))
    ((readTable_state args s).symm ▸ hs) ((readRuntime_state args s).symm ▸ hs)
    (stable_noArgs _ args (h.report _ _ (reportMoves_drop _ _) hs) hs) (stable_noArgs _ args hs hs)
    (stable_noArgs _ args (core_enterOperate h hs) hs) (stable_noArgs _ args (core_enterConfig h hs) hs)
    (stable_noArgs _ args
      (h.restart _ (core_writeEvent h _ (core_abortCheck h _ (core_endDirects h _ hs)))) hs)
    (stable_noArgs _ args (core_haltRequest h hs) hs) (stable_noArgs _ args (core_stopRequest h hs) hs)
    (core_engage h args hs) (core_release h args hs) (core_startCheck h args hs)
    (stable_noArgs _ args (by
      unfold abortRequest
      split
      · exact core_abortCheck h _ hs
      · exact hs) hs)
    (core_directTorque h args hs) (core_clearFaults h args hs) hs

theorem CoreKeeps.flow : FlowKeeps P where
  toSegKeeps := core_segKeeps h
  queue := h.queue
  clock := h.clock
  port := h.port
  pacing _ x hx hs := h.pacing _ x hx.counts hs
  mgmt _ x _ hx hs := h.mgmt _ x hx hs
  halted _ r c hs := core_enterHalted h r c hs
  point _ hs := core_computePoint h hs

end Core

/-- What every move of a record keeps, every step keeps. -/
theorem RecordKeeps.keeps (h : RecordKeeps P) : Keeps P where
  toFlowKeeps := h.toCoreKeeps.flow
  body s code args hs := core_requestBody h.toCoreKeeps code args (fun t hl => h.load s t hl hs) hs
  hard := h.hard

end Sys2Proof.Machine
end

section
/-! SUPPORT. The invariants of the records as properties that every move of a record keeps. -/

namespace Sys2Proof.Machine

open Sys2Proof.Proofs (resetIsSafe)

variable {s : State}

theorem otherGroup_ne (g : Fin 2) : otherGroup g ≠ g := by fin_cases g <;> decide

theorem queueInOrder_keeps : RecordKeeps QueueInOrder where
  queue _ _ hs := hs
  clock _ _ hs := hs
  free _ _ hs := hs
  port _ _ _ hs := hs
  pacing _ _ _ hs := hs
  mgmt _ _ _ hs := hs
  seg _ _ _ _ hs := hs
  stations _ _ _ hs := hs
  demand _ _ _ hs := hs
  group _ _ _ _ hs := hs
  setpoints _ _ hs := hs
  directs _ _ hs := hs
  check _ _ hs := hs
  lastCheck _ _ hs := hs
  report _ _ hx hs := hx.order hs
  load _ _ hl hs := by cases hl <;> exact hs
  restart _ hs := hs
  hard _ _ := queueInOrder_reset

theorem groupsBounded_keeps : RecordKeeps GroupsBounded where
  queue _ _ hs := hs
  clock _ _ hs := hs
  free _ _ hs := hs
  port _ _ _ hs := hs
  pacing _ _ _ hs := hs
  mgmt _ _ _ hs := hs
  seg _ _ _ _ hs := hs
  stations _ _ _ hs := hs
  demand _ _ _ hs := hs
  group s g x hx hs k := by
    rw [State.group_setGroup, State.setGroup_store]
    split
    case isTrue hk => exact hk ▸ hx.bounded (hs g)
    case isFalse => exact hs k
  setpoints _ _ hs := hs
  directs _ _ hs := hs
  check _ _ hs := hs
  lastCheck _ _ hs := hs
  report _ _ _ hs := hs
  load s _ hl hs := by
    cases hl with
    | group _ g r _ =>
      intro k
      rw [placeGroup, State.group_setGroup, State.setGroup_store]
      split
      · exact groupBounded_reset _
      case isFalse hk => simpa [hk] using hs k
    | _ => exact hs
  restart s _ g := by
    rw [show (restartMachines s).group g = GroupRt.reset from Two.get_tabulate _ g]
    exact groupBounded_reset _
  hard _ _ := (resetIsSafe.groups : GroupsBounded State.reset)

/-! ## Stations, groups and slots of the store (R41, R129) -/

theorem storeConsistent_congr {s t : State} (hs : StoreConsistent s) (hg : t.store.groups = s.store.groups)
    (hl : t.store.slots = s.store.slots) (hr : t.store.stations = s.store.stations)
    (hc : t.store.schedule.length = s.store.schedule.length)
    (ha : ∀ i, (t.station i).state = .absent ↔ (s.station i).state = .absent) : StoreConsistent t where
  oneGroup := hg.symm ▸ hs.oneGroup
  oneSlot g k g' k' := by
    have h := hs.oneSlot g k g' k'
    unfold State.slotRec at h ⊢
    rwa [hl]
  absent i := by rw [ha i, hr]; exact hs.absent i
  schedule := hc.trans hs.schedule

/-- R41: a group record whose members are in no other group. -/
theorem oneGroup_placed {s : State} {g : Fin 2} {r : GroupRec}
    (h : r.members &&& (s.store.groups.get (otherGroup g)).members = 0) (i : Fin 4) :
    isMember ((s.store.groups.set g r).get 0) i = true →
      isMember ((s.store.groups.set g r).get 1) i = false := by
  have hbit : (r.members.getLsbD i.val && (s.store.groups.get (otherGroup g)).members.getLsbD i.val) = false := by
    rw [← BitVec.getLsbD_and, h, BitVec.ofNat_eq_ofNat, BitVec.getLsbD_zero]
  match g with
  | 0 =>
    intro (hi : r.members.getLsbD i.val = true)
    rwa [hi, Bool.true_and] at hbit
  | 1 =>
    intro (hi : (s.store.groups.get 0).members.getLsbD i.val = true)
    rwa [show otherGroup 1 = 0 from rfl, hi, Bool.and_true] at hbit

/-- R129: no other enabled slot names the station. -/
theorem stationFree_iff {store : Store} {g : Seg} {k i : Fin 4} :
    stationFree store g k i = true ↔ ∀ g' k', ((store.slots.get g'.num).get k').enabled = true →
      ((store.slots.get g'.num).get k').station = i → g' = g ∧ k' = k := by
  simp only [stationFree, List.all_eq_true, Bool.or_eq_true, decide_eq_true_eq, Bool.not_eq_true']
  constructor
  · intro h g' k' he hi
    rcases h (g', k') (mem_allSlots _) with (heq | hoff) | hne
    · exact Prod.mk.inj heq
    · simp [he] at hoff
    · exact absurd hi hne
  · rintro h ⟨g', k'⟩ -
    by_cases he : ((store.slots.get g'.num).get k').enabled = true
    · by_cases hi : ((store.slots.get g'.num).get k').station = i
      · obtain ⟨rfl, rfl⟩ := h g' k' he hi
        exact .inl (.inl rfl)
      · exact .inr hi
    · exact .inl (.inr (Bool.eq_false_iff.2 he))

theorem placeSlot_slotRec (s : State) (g g' : Seg) (k k' : Fin 4) (r : SlotRec) :
    (placeSlot g k r s).slotRec g' k' = if g' = g ∧ k' = k then r else s.slotRec g' k' := by
  simp only [placeSlot, State.slotRec, State.setSlot_store, State.setStore_store, Two.get_set, Seg.num_inj]
  by_cases hg : g' = g <;> by_cases hk : k' = k <;> simp [hg, hk]

theorem oneSlot_placed {s : State} (hs : StoreConsistent s) {g : Seg} {k : Fin 4} {r : SlotRec}
    (hr : r.enabled = true → stationFree s.store g k r.station = true) (g₁ : Seg) (k₁ : Fin 4) (g₂ : Seg)
    (k₂ : Fin 4) :
    ((placeSlot g k r s).slotRec g₁ k₁).enabled = true → ((placeSlot g k r s).slotRec g₂ k₂).enabled = true →
      ((placeSlot g k r s).slotRec g₁ k₁).station = ((placeSlot g k r s).slotRec g₂ k₂).station →
      g₁ = g₂ ∧ k₁ = k₂ := by
  have hfree (he : r.enabled = true) := stationFree_iff.1 (hr he)
  rw [placeSlot_slotRec, placeSlot_slotRec]
  split
  case isTrue h₁ =>
    obtain ⟨rfl, rfl⟩ := h₁
    split
    case isTrue h₂ => exact fun _ _ _ => ⟨h₂.1.symm, h₂.2.symm⟩
    case isFalse h₂ => exact fun he he₂ hst => absurd (hfree he g₂ k₂ he₂ hst.symm) h₂
  case isFalse h₁ =>
    split
    case isTrue h₂ =>
      obtain ⟨rfl, rfl⟩ := h₂
      exact fun he₁ he hst => absurd (hfree he g₁ k₁ he₁ hst) h₁
    case isFalse => exact hs.oneSlot g₁ k₁ g₂ k₂

/-- R41, R129, R7: the store consistent and the limits derived. -/
def StoreSound (s : State) : Prop := StoreConsistent s ∧ LimitsDerived s

theorem storeSound_congr {s t : State} (hs : StoreSound s) (hg : t.store.groups = s.store.groups)
    (hl : t.store.slots = s.store.slots) (hr : t.store.stations = s.store.stations)
    (hc : t.store.schedule.length = s.store.schedule.length) (hx : t.stations = s.stations) :
    StoreSound t := by
  have hst : ∀ i, t.station i = s.station i := fun i => congrArg (Four.get · i) hx
  refine ⟨storeConsistent_congr hs.1 hg hl hr hc fun i => by rw [hst], fun i => ?_⟩
  rw [hst, hr]
  exact hs.2 i

/-- A record replaced with its station: ABSENT exactly when not present, its limits derived. -/
theorem storeSound_setStation {s : State} (hs : StoreSound s) (i : Fin 4) (r : StationRec) (x : StationRt)
    (ha : x.state = .absent ↔ r.present = false) (hl : LimitsOf r x) :
    StoreSound ((s.setStore { s.store with stations := s.store.stations.set i r }).setStation i x) := by
  obtain ⟨⟨hgroup, hslot, habsent, hsched⟩, hlimits⟩ := hs
  refine ⟨⟨hgroup, hslot, fun j => ?_, hsched⟩, fun j => ?_⟩
  all_goals
    simp only [State.station_setStation, State.setStation_store, State.setStore_store, Four.get_set]
    split
  · exact ha
  · exact habsent j
  · exact hl
  · exact hlimits j

theorem storeSound_restart {s : State} (hs : StoreSound s) : StoreSound (restartMachines s) := by
  have hst : ∀ i, (restartMachines s).station i =
      restartStation (s.store.stations.get i) (s.station i) := fun i => Four.get_tabulate _ i
  refine ⟨⟨hs.1.oneGroup, hs.1.oneSlot, fun i => ?_, hs.1.schedule⟩, fun i => ?_⟩ <;>
    rw [hst, restartStation] <;> dsimp only [restartMachines] <;> split
  case refine_1.isTrue hp => simp [waitingRt, hp]
  case refine_1.isFalse hp => simpa [absentRt, StationRt.reset] using hp
  case refine_2.isTrue => exact ⟨rfl, rfl⟩
  case refine_2.isFalse hp => simp [absentRt, StationRt.reset, torqueLimitOf, overspeedLimitOf, hp]

theorem storeSound_loaded {s t : State} (hl : Loaded s t) (hs : StoreSound s) : StoreSound t := by
  cases hl with
  | cell => exact storeSound_congr hs rfl rfl rfl rfl rfl
  | road => exact storeSound_congr hs rfl rfl rfl rfl rfl
  | placed _ i r hr => exact storeSound_setStation hs i r _ (by simp [waitingRt, hr]) ⟨rfl, rfl⟩
  | removed _ i =>
    exact storeSound_setStation hs i _ _ (by simp [absentRt, StationRt.reset, StationRec.reset]) ⟨rfl, rfl⟩
  | group _ g r hr =>
    exact ⟨⟨oneGroup_placed hr, hs.1.oneSlot, hs.1.absent, hs.1.schedule⟩, hs.2⟩
  | slot _ g k r hr => exact ⟨⟨hs.1.oneGroup, oneSlot_placed hs.1 hr, hs.1.absent, hs.1.schedule⟩, hs.2⟩
  | schedule n e => exact storeSound_congr hs rfl rfl rfl (by simp) rfl

theorem storeSound_keeps : RecordKeeps StoreSound where
  queue _ _ hs := storeSound_congr hs rfl rfl rfl rfl rfl
  clock _ _ hs := storeSound_congr hs rfl rfl rfl rfl rfl
  free _ _ hs := storeSound_congr hs rfl rfl rfl rfl rfl
  port _ _ _ hs := storeSound_congr hs rfl rfl rfl rfl rfl
  pacing _ _ _ hs := storeSound_congr hs rfl rfl rfl rfl rfl
  mgmt _ _ _ hs := storeSound_congr hs rfl rfl rfl rfl rfl
  seg _ _ _ _ hs := storeSound_congr hs rfl rfl rfl rfl rfl
  stations _ _ hx hs :=
    ⟨storeConsistent_congr hs.1 rfl rfl rfl rfl fun i => (hx i).absent, fun i => (hx i).limits (hs.2 i)⟩
  demand _ _ _ hs := storeSound_congr hs rfl rfl rfl rfl rfl
  group _ _ _ _ hs := storeSound_congr hs rfl rfl rfl rfl rfl
  setpoints _ _ hs := storeSound_congr hs rfl rfl rfl rfl rfl
  directs _ _ hs := storeSound_congr hs rfl rfl rfl rfl rfl
  check _ _ hs := storeSound_congr hs rfl rfl rfl rfl rfl
  lastCheck _ _ hs := storeSound_congr hs rfl rfl rfl rfl rfl
  report _ _ _ hs := storeSound_congr hs rfl rfl rfl rfl rfl
  load _ _ hl hs := storeSound_loaded hl hs
  restart _ hs := storeSound_restart hs
  hard _ _ := storeSound_congr (s := State.reset) ⟨resetIsSafe.store, resetIsSafe.limits⟩ rfl rfl rfl rfl rfl

/-! ## Speeds -/

theorem speedsBounded_congr {s t : State} (hs : SpeedsBounded s) (hx : t.stations = s.stations)
    (hg : t.groups = s.groups) (hp : t.port.pendingDemand = s.port.pendingDemand) (hd : t.demand = s.demand) :
    SpeedsBounded t := by
  have hst : t.station = s.station := funext fun i => congrArg (Four.get · i) hx
  have hgr : t.group = s.group := funext fun g => congrArg (Two.get · g) hg
  rw [speedsBounded_iff] at hs ⊢
  rwa [hst, hgr, hp, hd]

/-- A station whose record has no speed is put into WAITING or ABSENT. -/
theorem speedsBounded_setStation {s : State} (hs : SpeedsBounded s) (i : Fin 4) (r : StationRec)
    (x : StationRt) (hx : StationFast x) :
    SpeedsBounded ((s.setStore { s.store with stations := s.store.stations.set i r }).setStation i x) := by
  rw [speedsBounded_iff] at hs ⊢
  obtain ⟨hst, hrest⟩ := hs
  refine ⟨fun j => ?_, hrest⟩
  rw [State.station_setStation]
  split
  · exact hx
  · exact hst j

theorem groupFast_reset : GroupFast GroupRt.reset :=
  ⟨by simp [GroupRt.reset], by simp [GroupRt.reset], by simp [GroupRt.reset], ringFits_nil, by
    simp [GroupRt.reset]⟩

theorem speedsBounded_setGroup {s : State} (hs : SpeedsBounded s) (g : Fin 2) (x : GroupRt)
    (hx : GroupFast x) : SpeedsBounded (s.setGroup g x) := by
  rw [speedsBounded_iff] at hs ⊢
  obtain ⟨hst, hgr, hrest⟩ := hs
  refine ⟨hst, fun k => ?_, hrest⟩
  rw [State.group_setGroup]
  split
  · exact hx
  · exact hgr k

theorem speedsBounded_restart {s : State} (hs : SpeedsBounded s) : SpeedsBounded (restartMachines s) := by
  refine speedsBounded_iff.2 ⟨fun i => ?_, fun g => ?_, hs.pending, resetIsSafe.speeds.effective⟩
  · rw [show (restartMachines s).station i = _ from Four.get_tabulate _ i, restartStation]
    split <;> exact stationFast_of_empty rfl rfl rfl
  · rw [show (restartMachines s).group g = _ from Two.get_tabulate _ g]
    exact groupFast_reset

theorem speedsBounded_loaded {s t : State} (hl : Loaded s t) (hs : SpeedsBounded s) : SpeedsBounded t := by
  cases hl with
  | placed _ i r => exact speedsBounded_setStation hs i r _ (stationFast_of_empty rfl rfl rfl)
  | removed _ i => exact speedsBounded_setStation hs i _ _ (stationFast_of_empty rfl rfl rfl)
  | group _ g r =>
    have hset : SpeedsBounded (s.setStore { s.store with groups := s.store.groups.set g r }) :=
      speedsBounded_congr hs rfl rfl rfl rfl
    exact speedsBounded_setGroup hset g _ groupFast_reset
  | _ => exact speedsBounded_congr hs rfl rfl rfl rfl

theorem speedsBounded_keeps : RecordKeeps SpeedsBounded where
  queue _ _ hs := speedsBounded_congr hs rfl rfl rfl rfl
  clock _ _ hs := speedsBounded_congr hs rfl rfl rfl rfl
  free _ _ hs := speedsBounded_congr hs rfl rfl rfl rfl
  port _ _ hx hs := { hs with pending := hx.demand hs.pending }
  pacing _ _ _ hs := speedsBounded_congr hs rfl rfl rfl rfl
  mgmt _ _ _ hs := speedsBounded_congr hs rfl rfl rfl rfl
  seg _ _ _ _ hs := speedsBounded_congr hs rfl rfl rfl rfl
  stations _ _ hx hs := by
    rw [speedsBounded_iff] at hs ⊢
    exact ⟨fun i => (hx i).fast (hs.1 i), hs.2⟩
  demand _ _ hx hs := { hs with effective := hx.range hs }
  group _ g x hx hs := speedsBounded_setGroup hs g x (hx.fast hs)
  setpoints _ _ hs := speedsBounded_congr hs rfl rfl rfl rfl
  directs _ _ hs := speedsBounded_congr hs rfl rfl rfl rfl
  check _ _ hs := speedsBounded_congr hs rfl rfl rfl rfl
  lastCheck _ _ hs := speedsBounded_congr hs rfl rfl rfl rfl
  report _ _ _ hs := speedsBounded_congr hs rfl rfl rfl rfl
  load _ _ hl hs := speedsBounded_loaded hl hs
  restart _ hs := speedsBounded_restart hs
  hard _ _ := speedsBounded_congr (s := State.reset) resetIsSafe.speeds rfl rfl rfl rfl

/-! ## Counters -/

/-- R127, R128: the counters of a segment. -/
def SegCounted (x : Segment) : Prop :=
  x.stray ≤ 65535 ∧ x.bootCount ≤ 64 ∧ (x.state = .boot → x.bootCount < 64) ∧
    ∀ k, (x.slots.get k).errors ≤ 255

theorem segCounted_of_moves {x y : Segment} (h : SegMoves x y) (hx : SegCounted x) : SegCounted y := by
  obtain ⟨hstray, hle, hlt, herr⟩ := hx
  exact ⟨h.stray hstray, (h.boot ⟨hle, hlt⟩).1, (h.boot ⟨hle, hlt⟩).2, h.errors herr⟩

theorem countersSaturate_setSeg {s : State} (hs : CountersSaturate s) (g : Seg) (x : Segment)
    (hx : SegCounted x) : CountersSaturate (s.setSeg g x) := by
  refine { hs with segment := fun k => ?_ }
  rw [State.setSeg_segs, Two.get_set]
  split
  · exact hx
  · exact hs.segment k

theorem countersSaturate_setStation {s : State} (hs : CountersSaturate s) (i : Fin 4) (r : StationRec)
    (x : StationRt) (hx : x.plausibility = (s.station i).plausibility) :
    CountersSaturate ((s.setStore { s.store with stations := s.store.stations.set i r }).setStation i x) := by
  refine { hs with station := fun j => ?_ }
  rw [State.station_setStation]
  split
  · rw [hx]
    exact hs.station i
  · exact hs.station j

theorem countersSaturate_setGroup {s : State} (hs : CountersSaturate s) (g : Fin 2) (x : GroupRt)
    (hx : x.inBand ≤ 255) : CountersSaturate (s.setGroup g x) := by
  refine { hs with group := fun k => ?_ }
  rw [State.group_setGroup]
  split
  · exact hx
  · exact hs.group k

theorem countersSaturate_loaded {s t : State} (hl : Loaded s t) (hs : CountersSaturate s) :
    CountersSaturate t := by
  cases hl with
  | placed _ i r => exact countersSaturate_setStation hs i r _ rfl
  | removed _ i => exact countersSaturate_setStation hs i _ _ rfl
  | group _ g r =>
    have hset : CountersSaturate (s.setStore { s.store with groups := s.store.groups.set g r }) := { hs with }
    exact countersSaturate_setGroup hset g _ (Nat.zero_le _)
  | slot _ g k r =>
    have hset : CountersSaturate (s.setStore { s.store with
        slots := s.store.slots.set g.num ((s.store.slots.get g.num).set k r) }) := { hs with }
    refine countersSaturate_setSeg hset g _ (segCounted_of_moves (x := s.seg g)
      ⟨id, id, fun herr j => ?_⟩ (hs.segment g.num))
    rw [Four.get_set]
    split
    · exact herr k
    · exact herr j
  | _ => exact { hs with }

theorem countersSaturate_restart {s : State} (hs : CountersSaturate s) :
    CountersSaturate (restartMachines s) := by
  refine { hs with segment := fun g => ?_, station := fun i => ?_, demand := Nat.zero_le _, group := fun g => ?_ }
  · rw [show (restartMachines s).segs.get g = _ from Two.get_tabulate _ g]
    obtain ⟨hstray, -, -, herr⟩ := hs.segment g
    refine ⟨hstray, Nat.zero_le _, fun _ => Nat.zero_lt_succ _, fun k => ?_⟩
    rw [show (restartSegment (s.segs.get g)).slots.get k = _ from Four.get_tabulate _ k]
    exact herr k
  · rw [show (restartMachines s).station i = _ from Four.get_tabulate _ i, restartStation]
    split <;> exact hs.station i
  · rw [show (restartMachines s).group g = _ from Two.get_tabulate _ g]
    exact Nat.zero_le _

theorem segCounted_resetSegment (x : Segment) : SegCounted (resetSegment x) :=
  ⟨Nat.zero_le _, Nat.zero_le _, fun _ => Nat.zero_lt_succ _, fun k => by
    rw [show (resetSegment x).slots.get k = _ from Four.get_tabulate _ k]
    exact Nat.zero_le _⟩

theorem countersSaturate_keeps : RecordKeeps CountersSaturate where
  queue _ _ hs := { hs with }
  clock _ _ hs := { hs with }
  free _ _ hs := { hs with }
  port _ _ hx hs := { hs with port := hx.counts hs.port }
  pacing _ _ hx hs := { hs with pacing := hx hs.pacing }
  mgmt _ _ hx hs := { hs with mgmt := hx hs.mgmt }
  seg _ g x hx hs := countersSaturate_setSeg hs g x (segCounted_of_moves hx (hs.segment g.num))
  stations _ _ hx hs := { hs with station := fun i => (hx i).plausibility (hs.station i) }
  demand _ _ hx hs := { hs with demand := hx.age hs.demand }
  group _ g x hx hs := countersSaturate_setGroup hs g x (hx.inBand (hs.group g))
  setpoints _ _ hs := { hs with }
  directs _ _ hs := { hs with }
  check _ _ hs := { hs with }
  lastCheck _ _ hs := { hs with }
  report _ _ hx hs := { hs with report := hx.overruns hs.report }
  load _ _ hl hs := countersSaturate_loaded hl hs
  restart _ hs := countersSaturate_restart hs
  hard s _ := { resetIsSafe.counters with
    segment := fun g =>
      (Two.get_tabulate (fun g => resetSegment (s.segs.get g)) g).symm ▸ segCounted_resetSegment _ }

end Sys2Proof.Machine
end

section
/-! PROOF. The invariants of the records (R4, R7, R10, R17, R18, R23, R41, R42, R46 to R48, R51 to R53, R55,
R103, R127 to R129, R155, R160, R168, R184, R193): each is kept by every move of a record, so by every step. -/

namespace Sys2Proof.Proofs

open Sys2Proof.Machine

/-- Settles O55: records are written and read in their order by every step. -/
theorem queueInOrderKept : Obligations.QueueInOrderKept :=
  fun _ _ hs hstep => keeps_step queueInOrder_keeps.keeps hs hstep

/-- Settles O56: every change of a group keeps its forces, its authority and its integrators bounded. -/
theorem groupsBoundedKept : Obligations.GroupsBoundedKept :=
  fun _ _ hs hstep => keeps_step groupsBounded_keeps.keeps hs hstep

/-- Settles O58: the loads' checks keep the store consistent, and every change of a record or of init values
derives the limits again. -/
theorem storeConsistentKept : Obligations.StoreConsistentKept :=
  fun _ _ hs hlimits hstep => keeps_step storeSound_keeps.keeps ⟨hs, hlimits⟩ hstep

/-- Settles O59: every speed taken over is a speed the part can hold. -/
theorem speedsBoundedKept : Obligations.SpeedsBoundedKept :=
  fun _ _ hs hstep => keeps_step speedsBounded_keeps.keeps hs hstep

/-- Settles O60: every counter goes up by a saturating count. -/
theorem countersSaturateKept : Obligations.CountersSaturateKept :=
  fun _ _ hs hstep => keeps_step countersSaturate_keeps.keeps hs hstep

end Sys2Proof.Proofs
end

section
/-! SUPPORT. What the ends of the DIRECTs, of the check and of the groups leave, and the records they write, for
an entry to HALTED, for ENTER_CONFIG and for RESTART. -/

namespace Sys2Proof.Machine

variable (bs : List EventBody) (s : State)

/-! ## Records written one after another -/

theorem writeEvents_append (as : List EventBody) :
    writeEvents bs (writeEvents as s) = writeEvents (as ++ bs) s := (List.foldl_append ..).symm

/-- Records written change the report alone. -/
theorem writeEvents_eq_setReport : writeEvents bs s = s.setReport (writeEvents bs s).report := by
  induction bs generalizing s with
  | nil => rfl
  | cons b bs ih =>
    rw [show writeEvents (b :: bs) s = writeEvents bs (writeEvent b s) from rfl, ih (writeEvent b s),
      writeEvent_eq_setReport b s]
    rfl

theorem writeEvents_report_congr {s s' : State} (hr : s.report = s'.report)
    (hs : s.pacing.serial = s'.pacing.serial) : (writeEvents bs s).report = (writeEvents bs s').report := by
  induction bs generalizing s s' with
  | nil => exact hr
  | cons b bs ih => exact ih (writeEvent_report_congr b hr hs) (by simpa using hs)

theorem writeEvents_setDirects (x : Four Direct) :
    writeEvents bs (s.setDirects x) = (writeEvents bs s).setDirects x := by
  rw [writeEvents_eq_setReport, writeEvents_eq_setReport bs s,
    writeEvents_report_congr bs (s := s.setDirects x) (s' := s) rfl rfl]
  rfl

theorem writeEvents_setGroups (x : Two GroupRt) :
    writeEvents bs (s.setGroups x) = (writeEvents bs s).setGroups x := by
  rw [writeEvents_eq_setReport, writeEvents_eq_setReport bs s,
    writeEvents_report_congr bs (s := s.setGroups x) (s' := s) rfl rfl]
  rfl

@[simp] theorem writeEvents_directs : (writeEvents bs s).directs = s.directs := by
  rw [writeEvents_eq_setReport, State.setReport_directs]

@[simp] theorem writeEvents_direct (i : Fin 4) : (writeEvents bs s).direct i = s.direct i := by
  rw [writeEvents_eq_setReport, State.setReport_direct]

@[simp] theorem writeEvents_group (g : Fin 2) : (writeEvents bs s).group g = s.group g := by
  rw [writeEvents_eq_setReport, State.setReport_group]

@[simp] theorem writeEvents_check : (writeEvents bs s).check = s.check := by
  rw [writeEvents_eq_setReport, State.setReport_check]

@[simp] theorem writeEvents_lastCheck : (writeEvents bs s).lastCheck = s.lastCheck := by
  rw [writeEvents_eq_setReport, State.setReport_lastCheck]

/-! ## The ends of the DIRECTs (R83) -/

theorem endDirect_eq (c : EndCause) (i : Fin 4) :
    endDirect c i s = (writeEvents (if (s.direct i).active then [.direct i false] else []) s).setDirects
      (s.directs.set i (directEnded c (s.direct i))) := by
  cases h : (s.direct i).active with
  | true => simp [endDirect_of_active c h, writeEvent_setDirects, directEnded, h, writeEvents]
  | false =>
    have hset : s.directs.set i (directEnded c (s.direct i)) = s.directs := by
      refine Four.ext_get fun j => ?_
      by_cases hj : j = i
      · rw [hj, Four.get_set, if_pos rfl, directEnded, h]
        rfl
      · simp [hj]
    rw [endDirect_of_inactive c i h, hset]
    rfl

theorem directEnds_eq : directEnds s =
    (four.map fun i => if (s.direct i).active then [EventBody.direct i false] else []).flatten := by
  unfold directEnds
  induction four with
  | nil => rfl
  | cons i l ih =>
    rw [List.filterMap_cons, List.map_cons, List.flatten_cons, ← ih]
    cases (s.direct i).active <;> rfl

theorem setDirects_setDirects (x y : Four Direct) : (s.setDirects x).setDirects y = s.setDirects y := rfl

theorem endDirects_eq (c : EndCause) : endDirects c s =
    (writeEvents (directEnds s) s).setDirects (Four.tabulate fun i => directEnded c (s.direct i)) := by
  simp only [endDirects, four, List.foldl_cons, List.foldl_nil, endDirect_eq, writeEvents_setDirects,
    writeEvents_append, directEnds_eq, List.map_cons, List.map_nil, List.flatten_cons, List.flatten_nil,
    List.append_nil, List.append_assoc, setDirects_setDirects]
  refine congr (congrArg State.setDirects ?_) ?_
  · simp [State.direct]
    rfl
  · rfl

/-! ## Changes of both groups (R65, R66) -/

/-- R61: a change of each group of a kind, group 0 first, with its record. -/
theorem bothGroups_eq {op : Fin 2 → State → State} {p : GroupRt → Bool} {f : GroupRt → GroupRt}
    {reason : GroupReason} (hop : ∀ g s, op g s =
      if p (s.group g) then groupEvent g (s.setGroup g (f (s.group g))) else s)
    (hf : ∀ x, (f x).reason = reason ∧ (f x).maxError = x.maxError) :
    op 1 (op 0 s) = (writeEvents (groupEvents p reason s) s).setGroups
      (Two.tabulate fun g => if p (s.group g) then f (s.group g) else s.group g) := by
  have hone (g : Fin 2) (u : State) : op g u =
      (writeEvents (if p (u.group g) then [.group g reason (u.group g).maxError] else []) u).setGroups
        (u.groups.set g (if p (u.group g) then f (u.group g) else u.group g)) := by
    rw [hop]
    cases hp : p (u.group g) with
    | true => simp [groupEvent_setGroup, hf, writeEvents]
    | false =>
      have hset : u.groups.set g (u.group g) = u.groups :=
        Two.ext_get fun k => by by_cases hk : k = g <;> simp [hk, State.group]
      simp [hset, writeEvents, State.setGroups]
  have hevents : groupEvents p reason s =
      (if p (s.group 0) then [.group 0 reason (s.group 0).maxError] else []) ++
        if p (s.group 1) then [.group 1 reason (s.group 1).maxError] else [] := by
    cases h0 : p (s.group 0) <;> cases h1 : p (s.group 1) <;> simp [groupEvents, h0, h1]
  rw [hone 0, hone 1, hevents]
  simp only [writeEvents_setGroups, writeEvents_append]
  simp [State.group]
  rfl

theorem haltGroups_eq : haltGroup 1 (haltGroup 0 s) = (writeEvents (groupEvents engaged .halt s) s).setGroups
    (Two.tabulate fun g => if engaged (s.group g) then openedRt .halt (s.group g) else s.group g) :=
  bothGroups_eq s (fun _ _ => rfl) fun _ => ⟨rfl, rfl⟩

theorem configGroups_eq : configGroup 1 (configGroup 0 s) =
    (writeEvents (groupEvents (fun x => decide (x.state = .broken)) .config s) s).setGroups
      (Two.tabulate fun g => if (s.group g).state = .broken then
        { s.group g with state := .opened, reason := .config } else s.group g) := by
  have h := bothGroups_eq (op := configGroup) (p := fun x => decide (x.state = .broken))
    (f := fun x => { x with state := .opened, reason := .config }) (reason := .config) s
    (fun _ _ => by simp [configGroup]) fun _ => ⟨rfl, rfl⟩
  simpa using h

/-! ## The entry to HALTED (R65, R122) -/

/-- R190: the flags of a mask latched. -/
def latchMask (m : BitVec 18) (s : State) : State :=
  s.setReport { s.report with faults := s.report.faults ||| m }

theorem writeEvent_latchMask (b : EventBody) (m : BitVec 18) :
    writeEvent b (latchMask m s) = latchMask m (writeEvent b s) := by
  by_cases h : s.report.queue.length < 32
  · simp [writeEvent, latchMask, h, State.setReport]
  · simp [writeEvent, latchMask, latch, h, State.setReport, BitVec.or_assoc, BitVec.or_comm m]

theorem writeEvents_latchMask (m : BitVec 18) :
    writeEvents bs (latchMask m s) = latchMask m (writeEvents bs s) := by
  induction bs generalizing s with
  | nil => rfl
  | cons b bs ih =>
    rw [show writeEvents (b :: bs) (latchMask m s) = writeEvents bs (writeEvent b (latchMask m s)) from rfl,
      writeEvent_latchMask, ih]
    rfl

theorem writeEvents_setPacing {p : Pacing} (hp : p.serial = s.pacing.serial) :
    writeEvents bs (s.setPacing p) = (writeEvents bs s).setPacing p := by
  rw [writeEvents_eq_setReport, writeEvents_eq_setReport bs s,
    writeEvents_report_congr bs (s := s.setPacing p) (s' := s) rfl hp]
  rfl

theorem writeEvents_setMgmt (x : Mgmt) : writeEvents bs (s.setMgmt x) = (writeEvents bs s).setMgmt x := by
  rw [writeEvents_eq_setReport, writeEvents_eq_setReport bs s,
    writeEvents_report_congr bs (s := s.setMgmt x) (s' := s) rfl rfl]
  rfl

theorem writeEvents_setCheck (x : CheckContext) :
    writeEvents bs (s.setCheck x) = (writeEvents bs s).setCheck x := by
  rw [writeEvents_eq_setReport, writeEvents_eq_setReport bs s,
    writeEvents_report_congr bs (s := s.setCheck x) (s' := s) rfl rfl]
  rfl

theorem writeEvents_setLastCheck (x : LastCheck) :
    writeEvents bs (s.setLastCheck x) = (writeEvents bs s).setLastCheck x := by
  rw [writeEvents_eq_setReport, writeEvents_eq_setReport bs s,
    writeEvents_report_congr bs (s := s.setLastCheck x) (s' := s) rfl rfl]
  rfl

theorem becomeHalted_eq (r : HaltReason) : becomeHalted r s =
    latchMask (if r = .cellSilent then 0x2 else 0) (writeEvents [.pacing (haltEventReason r)] (s.setPacing
      { s.pacing with state := .halted, haltReason := r, haltPending := false })) := by
  by_cases hr : r = .cellSilent
  · rw [becomeHalted, if_pos hr, if_pos hr]
    rfl
  · simp only [becomeHalted, hr, if_false, latchMask, BitVec.ofNat_eq_ofNat, BitVec.or_zero]
    rfl

theorem direct_congr {s t : State} (h : t.directs = s.directs) : t.direct = s.direct :=
  funext fun i => congrArg (Four.get · i) h

theorem group_congr {s t : State} (h : t.groups = s.groups) : t.group = s.group :=
  funext fun g => congrArg (Two.get · g) h

theorem directEnds_congr {s t : State} (h : t.directs = s.directs) : directEnds t = directEnds s := by
  rw [directEnds, directEnds, direct_congr h]

theorem checkAborts_congr (q : CheckReason) {s t : State} (h : t.check = s.check) :
    checkAborts q t = checkAborts q s := by simp [checkAborts, h]

theorem abortedRecord_congr (q : CheckReason) {s t : State} (h : t.check = s.check)
    (hl : t.lastCheck = s.lastCheck) : abortedRecord q t = abortedRecord q s := by
  simp [abortedRecord, h, hl]

theorem groupEvents_congr (p : GroupRt → Bool) (r : GroupReason) {s t : State} (h : t.groups = s.groups) :
    groupEvents p r t = groupEvents p r s := by
  rw [groupEvents, groupEvents, group_congr h]

/-- The groups' entries to OPEN, of a state whose groups are those of `s`. -/
theorem haltGroups_of_groups {s t : State} (h : t.groups = s.groups) : haltGroup 1 (haltGroup 0 t) =
    (writeEvents (groupEvents engaged .halt s) t).setGroups
      (Two.tabulate fun g => if engaged (s.group g) then openedRt .halt (s.group g) else s.group g) := by
  rw [haltGroups_eq, groupEvents_congr _ _ h, group_congr h]

/-- The DIRECTs' ends and the end of the check, of a state whose DIRECTs and check are those of `s`. -/
theorem abortCheck_endDirects (c : EndCause) (q : CheckReason) {s t : State} (hd : t.directs = s.directs)
    (hc : t.check = s.check) (hl : t.lastCheck = s.lastCheck) : abortCheck q (endDirects c t) =
      (((writeEvents (directEnds s ++ checkAborts q s) t).setDirects
        (Four.tabulate fun i => directEnded c (s.direct i))).setCheck
          { s.check with running := false }).setLastCheck (abortedRecord q s) := by
  have hends := endDirects_eq t c
  rw [directEnds_congr hd, direct_congr hd] at hends
  rw [abortCheck_eq, hends, checkAborts_congr q (s := s) (by simpa using hc),
    abortedRecord_congr q (s := s) (by simpa using hc) (by simpa using hl)]
  simp only [writeEvents_setDirects, writeEvents_append, State.setDirects_check, writeEvents_check, hc]

/-- What the entry to HALTED leaves to the segments. -/
theorem enterHalted_eq (r : HaltReason) (cycle : Bool) : enterHalted r cycle s = bothSegments true cycle
    (latchMask (if r = .cellSilent then 0x2 else 0)
      ((((((writeEvents (.pacing (haltEventReason r) :: directEnds s ++ checkAborts .halt s
        ++ groupEvents engaged .halt s) s).setPacing
          { s.pacing with state := .halted, haltReason := r, haltPending := false }).setDirects
            (Four.tabulate fun i => directEnded .halt (s.direct i))).setCheck
              { s.check with running := false }).setLastCheck (abortedRecord .halt s)).setGroups
                (Two.tabulate fun g =>
                  if engaged (s.group g) then openedRt .halt (s.group g) else s.group g))) := by
  unfold enterHalted
  dsimp only
  rw [becomeHalted_eq, abortCheck_endDirects (s := s) .halt .halt (by simp [latchMask]) (by simp [latchMask])
    (by simp [latchMask]), haltGroups_of_groups (s := s) (by simp [latchMask])]
  simp only [writeEvents_latchMask, writeEvents_setDirects, writeEvents_setCheck, writeEvents_setLastCheck,
    writeEvents_append]
  rw [writeEvents_setPacing]
  · rfl
  · rfl

/-! ## ENTER_CONFIG and RESTART (R180 to R182) -/

section EnterConfig

variable {s : State}

theorem enterConfig_of_config (h : s.mgmt.mode = .config) : enterConfig s = (s, doneWith 1 []) := by
  simp [enterConfig, h]

theorem find?_engaged {g : Fin 2} (hg : engaged (s.group g) = true)
    (hlow : ∀ g' < g, engaged (s.group g') = false) :
    ([0, 1] : List (Fin 2)).find? (fun g => engaged (s.group g)) = some g := by
  match g with
  | 0 => simp [hg]
  | 1 => simp [hg, hlow 0 (by decide)]

theorem enterConfig_of_engaged (h : s.mgmt.mode = .operate) {g : Fin 2} (hg : engaged (s.group g) = true)
    (hlow : ∀ g' < g, engaged (s.group g') = false) :
    enterConfig s = (s, { result := .wrongState, detail := 17, data := beBytes 1 g.val }) := by
  simp [enterConfig, h, find?_engaged hg hlow]

/-- The lowest of the four with a property is found. -/
theorem find?_four {p : Fin 4 → Bool} {i : Fin 4} (hi : p i = true) (hlow : ∀ j < i, p j = false) :
    four.find? p = some i := by
  rw [four_eq_finRange, List.find?_eq_some_iff_getElem]
  refine ⟨hi, i.val, by simp, by simp, fun j hj => ?_⟩
  simpa using hlow ⟨j, by omega⟩ hj

theorem enterConfig_of_direct (h : s.mgmt.mode = .operate) (hg : ∀ g, engaged (s.group g) = false)
    {i : Fin 4} (hi : (s.direct i).active = true) (hlow : ∀ j < i, (s.direct j).active = false) :
    enterConfig s = (s, { result := .wrongState, detail := 18, data := beBytes 1 i.val }) := by
  simp [enterConfig, h, hg, find?_four (p := fun i => (s.direct i).active) hi hlow]

/-- What ENTER_CONFIG leaves where nothing is engaged and no DIRECT is active. -/
theorem enterConfig_of_idle (h : s.mgmt.mode = .operate) (hg : ∀ g, engaged (s.group g) = false)
    (hd : ∀ i, (s.direct i).active = false) : enterConfig s =
      ({ writeEvents (.mode .config :: groupEvents (fun x => decide (x.state = .broken)) .config s) s with
          mgmt := { s.mgmt with mode := .config },
          groups := Two.tabulate fun g =>
            if (s.group g).state = .broken then { s.group g with state := .opened, reason := .config }
            else s.group g,
          setpoints := Four.tabulate fun _ => SetPoint.safe s.pacing.serial,
          stations := Four.tabulate fun i => { s.station i with slewMemory := 0 } },
        doneWith 0 []) := by
  have hnone : four.find? (fun i => (s.direct i).active) = none := by simp [hd]
  have hmode : changeMode .config s =
      (writeEvents [.mode .config] s).setMgmt { s.mgmt with mode := .config } := writeEvent_setMgmt _ _ _
  have hgroups : (changeMode .config s).groups = s.groups := by simp [changeMode]
  simp only [enterConfig, h, reduceCtorEq, if_false, hg, hnone, List.find?_cons, List.find?_nil]
  rw [configGroups_eq, groupEvents_congr _ _ hgroups, group_congr hgroups, hmode]
  simp only [writeEvents_setMgmt, writeEvents_append, List.singleton_append]
  rw [writeEvents_eq_setReport]
  rfl

end EnterConfig

/-- What RESTART leaves of the machines, of a state whose records are those of `s`. -/
theorem restart_eq : (restart s).1 = restartMachines
    ((((writeEvents (directEnds s ++ checkAborts .restart s ++ [.restarted]) s).setDirects
      (Four.tabulate fun i => directEnded .restart (s.direct i))).setCheck
        { s.check with running := false }).setLastCheck (abortedRecord .restart s)) := by
  have h := abortCheck_endDirects (s := s) (t := s) .restart .restart rfl rfl rfl
  simp only [restart, h, ← writeEvents_singleton, writeEvents_setDirects, writeEvents_setCheck,
    writeEvents_setLastCheck, writeEvents_append]

end Sys2Proof.Machine
end

section
/-! PROOF. An entry to HALTED, ENTER_CONFIG and RESTART, each as one update with its records in their order. -/

namespace Sys2Proof.Proofs

open Sys2Proof.Machine

/-- Settles O29: the DIRECTs, the check and the groups end in this order before the segments act. -/
theorem haltedEntry : Obligations.HaltedEntry := by
  intro reason cycle s _ w
  rw [enterHalted_eq]
  have hw : w = s.setReport w.report := writeEvents_eq_setReport _ s
  rw [show writeEvents _ s = w from rfl, hw]
  rfl

/-- Settles O26: the conditions of ENTER_CONFIG in their order. -/
theorem enterConfig : Obligations.EnterConfig := by
  intro t tag s hh
  have taken {s' : State} {a : Answer} (hb : Machine.enterConfig (arrive t s) = (s', a)) :
      exec (.enterConfig t tag []) s = answered 0x21 tag a (arrive t s) s' :=
    takeRequest_of_empty (body := noArgs Machine.enterConfig []) 0x21 tag hh hb
  refine ⟨fun hm => taken (enterConfig_of_config (s := arrive t s) hm), fun hm => ⟨fun g hg hlow =>
    taken (enterConfig_of_engaged (s := arrive t s) hm hg hlow), fun hg => ⟨fun i hi hlow =>
    taken (enterConfig_of_direct (s := arrive t s) hm hg hi hlow), fun hd => ?_⟩⟩⟩
  exact taken (enterConfig_of_idle (s := arrive t s) hm hg hd)

/-- Settles O27: the ends of the DIRECTs and of the check, then the machines at their RESTART values. -/
theorem restart : Obligations.Restart := by
  intro t tag s hh w
  have hw : w = (arrive t s).setReport w.report := writeEvents_eq_setReport _ _
  have hbody : (Machine.restart (arrive t s)).1 = restartMachines
      (((w.setDirects (Four.tabulate fun i => directEnded .restart (s.direct i))).setCheck
        { s.check with running := false }).setLastCheck (abortedRecord .restart s)) := restart_eq (arrive t s)
  have hlimits (i : Fin 4) : restartStation (s.store.stations.get i) (s.station i) =
      { StationRt.reset with
        state := if (s.store.stations.get i).present then .waiting else .absent,
        plausibility := (s.station i).plausibility,
        torqueLimit := if (s.store.stations.get i).present then (s.store.stations.get i).torqueLimit else 0,
        overspeedLimit := if (s.store.stations.get i).present then (s.store.stations.get i).overspeed else 0 } := by
    cases hp : (s.store.stations.get i).present <;>
      simp [restartStation, hp, waitingRt, absentRt, torqueLimitOf, overspeedLimitOf, InitValues.clear,
        StationRt.reset]
  have hexec : exec (.restart t tag []) s =
      answered 0x22 tag (doneWith 0 []) (arrive t s) (Machine.restart (arrive t s)).1 :=
    takeRequest_of_empty (body := noArgs Machine.restart []) 0x22 tag hh rfl
  rw [hexec, hbody, hw]
  refine congrArg (answered 0x22 tag _ (arrive t s)) ?_
  simp only [← hlimits]
  rfl

end Sys2Proof.Proofs
end

section
/-! SUPPORT. What holds between mode, pacing, groups, DIRECTs and the check, through the updates that make a
state quieter, through the stages of a computation point and through the requests. -/

namespace Sys2Proof.Machine

variable {s t : State}

/-- The consistency of the running machines, and SAFE entries at 0 (R44, R62, R70, R80, R91, R93, R179,
R180). -/
def RunSound (s : State) : Prop := RunConsistent s ∧ SafeEntries s

/-! ## Updates beside the running machines, and states at rest -/

/-- A change that keeps groups, DIRECTs, set-points and check, and ends neither cycles nor a station's data. -/
structure SameRun (s t : State) : Prop where
  mode : t.mgmt.mode = s.mgmt.mode
  groups : t.groups = s.groups
  directs : t.directs = s.directs
  setpoints : t.setpoints = s.setpoints
  members : t.store.groups = s.store.groups
  check : t.check = s.check
  runs : running s = true → running t = true
  live : ∀ i, liveOrStale (s.station i) = true → liveOrStale (t.station i) = true

theorem RunSound.of_same (hs : RunSound s) (h : SameRun s t) : RunSound t := by
  obtain ⟨⟨hconfig, hengaged, hdirect, hcheck⟩, hentries⟩ := hs
  have hgroup := group_congr h.groups
  have hdir := direct_congr h.directs
  refine ⟨⟨?_, fun g hg => ?_, fun i hi => ?_, ?_⟩, ?_⟩
  · rwa [h.mode, hgroup, hdir, h.setpoints]
  · rw [hgroup] at hg
    obtain ⟨hrun, hmem⟩ := hengaged g hg
    refine ⟨h.runs hrun, fun i hi => ?_⟩
    rw [h.members] at hi
    rw [hdir]
    exact ⟨h.live i (hmem i hi).1, (hmem i hi).2⟩
  · rw [hdir] at hi ⊢
    obtain ⟨hrun, hlive, hpos⟩ := hdirect i hi
    exact ⟨h.runs hrun, h.live i hlive, hpos⟩
  · rwa [h.check, hgroup]
  · rwa [SafeEntries, h.setpoints]

/-- Nothing engaged, no DIRECT, no check. -/
structure AtRest (s : State) : Prop where
  groups : ∀ g, engaged (s.group g) = false
  directs : ∀ i, (s.direct i).active = false
  check : s.check.running = false

theorem AtRest.runSound (h : AtRest s) (hsafe : s.mgmt.mode = .config → ∀ i, (s.setpoints.get i).source = .safe)
    (he : SafeEntries s) : RunSound s := by
  refine ⟨⟨fun hm => ⟨h.groups, h.directs, hsafe hm⟩, fun g hg => ?_, fun i hi => ?_, fun hc => ?_⟩, he⟩
  · rw [h.groups g] at hg
    cases hg
  · rw [h.directs i] at hi
    cases hi
  · rw [h.check] at hc
    cases hc

theorem AtRest.runSound_of (h : AtRest t) (hs : RunSound s) (hm : t.mgmt.mode = s.mgmt.mode)
    (hp : t.setpoints = s.setpoints) : RunSound t :=
  h.runSound (fun hc => hp ▸ (hs.1.config (hm ▸ hc)).2.2) (by rw [SafeEntries, hp]; exact hs.2)

theorem RunSound.atRest (hs : RunSound s) (hm : s.mgmt.mode = .config) : AtRest s := by
  obtain ⟨hg, hd, -⟩ := hs.1.config hm
  refine ⟨hg, hd, Bool.eq_false_iff.2 fun hc => ?_⟩
  have hengaged : engaged (s.group s.check.group) = true := engaged_iff.2 (.inr (.inl (hs.1.checkLocked hc).1))
  rw [hg] at hengaged
  cases hengaged

theorem safeEntries_safe {f : Fin 4 → BitVec 32} (h : s.setpoints = Four.tabulate fun i => SetPoint.safe (f i)) :
    (∀ i, (s.setpoints.get i).source = .safe) ∧ SafeEntries s := by
  have hget (i : Fin 4) : s.setpoints.get i = SetPoint.safe (f i) := by rw [h, Four.get_tabulate]
  exact ⟨fun i => by rw [hget]; rfl, fun i _ => by rw [hget]; exact ⟨rfl, rfl, rfl⟩⟩

/-! ## The stages of a computation point -/

/-- What holds between the stages: of the groups in `S` the members are LIVE or STALE again, and a check may
have lost its lock. -/
structure MidRun (S : Fin 2 → Prop) (s : State) : Prop where
  config : s.mgmt.mode = .config → (∀ g, engaged (s.group g) = false) ∧ (∀ i, (s.direct i).active = false) ∧
    ∀ i, (s.setpoints.get i).source = .safe
  engagedRuns : ∀ g, engaged (s.group g) = true → running s = true ∧
    ∀ i, isMember (s.store.groups.get g) i = true →
      (liveOrStale (s.station i) = true ∨ (s.station i).state = .faulted) ∧ (s.direct i).active = false
  sorted : ∀ g, S g → engaged (s.group g) = true →
    ∀ i, isMember (s.store.groups.get g) i = true → liveOrStale (s.station i) = true
  directRuns : ∀ i, (s.direct i).active = true →
    running s = true ∧ liveOrStale (s.station i) = true ∧ 0 < (s.direct i).remaining
  check : s.check.running = true → s.check.elapsed ≤ s.check.length * s.check.step
  entries : SafeEntries s

theorem RunSound.midRun (hs : RunSound s) : MidRun (fun _ => False) s where
  config := hs.1.config
  engagedRuns g hg := ⟨(hs.1.engagedRuns g hg).1, fun i hi =>
    ⟨.inl ((hs.1.engagedRuns g hg).2 i hi).1, ((hs.1.engagedRuns g hg).2 i hi).2⟩⟩
  sorted _ hg := hg.elim
  directRuns := hs.1.directRuns
  check hc := (hs.1.checkLocked hc).2
  entries := hs.2

variable {S : Fin 2 → Prop}

theorem MidRun.runSound (h : MidRun S s) (hS : ∀ g, S g)
    (hc : s.check.running = true → (s.group s.check.group).state = .locked) : RunSound s :=
  ⟨⟨h.config, fun g hg => ⟨(h.engagedRuns g hg).1, fun i hi =>
    ⟨h.sorted g (hS g) hg i hi, ((h.engagedRuns g hg).2 i hi).2⟩⟩, h.directRuns, fun hr =>
    ⟨hc hr, h.check hr⟩⟩, h.entries⟩

/-- A change beside the running machines and the stations. -/
theorem MidRun.of_eq (h : MidRun S s) (hm : t.mgmt.mode = s.mgmt.mode) (hg : t.groups = s.groups)
    (hd : t.directs = s.directs) (hp : t.setpoints = s.setpoints) (hr : t.store.groups = s.store.groups)
    (hc : t.check = s.check) (hrun : t.pacing.state = s.pacing.state)
    (hst : ∀ i, (t.station i).state = (s.station i).state) : MidRun S t := by
  have hgroup := group_congr hg
  have hdir := direct_congr hd
  have hlive : ∀ i, liveOrStale (t.station i) = liveOrStale (s.station i) := fun i => by
    rw [liveOrStale, hst, liveOrStale]
  have hruns : running t = running s := by rw [running, hrun, running]
  obtain ⟨h1, h2, h3, h4, h5, h6⟩ := h
  constructor
  · rwa [hm, hgroup, hdir, hp]
  · simpa only [hgroup, hruns, hr, hlive, hst, hdir] using h2
  · simpa only [hgroup, hr, hlive] using h3
  · simpa only [hdir, hruns, hlive] using h4
  · rwa [hc]
  · rwa [SafeEntries, hp]

/-- A change of one group that does not engage it. -/
theorem MidRun.setGroup (h : MidRun S s) (g : Fin 2) (x : GroupRt)
    (hx : engaged x = true → engaged (s.group g) = true) : MidRun S (s.setGroup g x) := by
  have hold {k : Fin 2} (hk : engaged ((s.setGroup g x).group k) = true) : engaged (s.group k) = true := by
    rw [State.group_setGroup] at hk
    split at hk
    case isTrue heq => exact heq ▸ hx hk
    case isFalse => exact hk
  refine ⟨fun hm => ⟨fun k => Bool.eq_false_iff.2 fun hk => ?_, (h.config hm).2⟩, fun k hk =>
    h.engagedRuns k (hold hk), fun k hS hk => h.sorted k hS (hold hk), h.directRuns, h.check, h.entries⟩
  exact Bool.eq_false_iff.1 ((h.config hm).1 k) (hold hk)

theorem MidRun.writeEvent (h : MidRun S s) (b : EventBody) : MidRun S (writeEvent b s) :=
  h.of_eq (by simp) (by simp) (by simp) (by simp) (by simp) (by simp) (by simp) (by simp)

theorem MidRun.latch (h : MidRun S s) (f : Flag) : MidRun S (latch f s) :=
  h.of_eq rfl rfl rfl rfl rfl rfl rfl fun _ => rfl

theorem engaged_brokenRt (r : GroupReason) (x : GroupRt) : engaged (brokenRt r x) = false := rfl

theorem MidRun.breakGroup (h : MidRun S s) (g : Fin 2) (r : GroupReason) : MidRun S (breakGroup g r s) :=
  ((h.setGroup g _ (by simp [engaged_brokenRt])).latch _).writeEvent _

/-! ### Station intake -/

theorem MidRun.setStation (h : MidRun (fun _ => False) s) {i : Fin 4} {x : StationRt}
    (hx : IntakeMoves (s.station i) x) : MidRun (fun _ => False) (s.setStation i x) := by
  have hlive (j : Fin 4) (hj : liveOrStale (s.station j) = true) :
      liveOrStale ((s.setStation i x).station j) = true := by
    rw [State.station_setStation]
    split
    case isTrue heq =>
      subst heq
      rcases hx.state with hst | ⟨-, hst⟩
      · rwa [liveOrStale, hst]
      · exact hst
    case isFalse => exact hj
  have hdata (j : Fin 4) (hj : (s.station j).state = .faulted) :
      liveOrStale ((s.setStation i x).station j) = true ∨ ((s.setStation i x).station j).state = .faulted := by
    rw [State.station_setStation]
    split
    case isTrue heq =>
      subst heq
      rcases hx.state with hst | ⟨-, hst⟩
      · exact .inr (hst.trans hj)
      · exact .inl hst
    case isFalse => exact .inr hj
  refine ⟨h.config, fun g hg => ⟨(h.engagedRuns g hg).1, fun j hj => ?_⟩, fun _ hf => hf.elim, fun j hj => ?_,
    h.check, h.entries⟩
  · obtain ⟨hst, hoff⟩ := (h.engagedRuns g hg).2 j hj
    exact ⟨hst.elim (fun hl => .inl (hlive j hl)) (hdata j), hoff⟩
  · obtain ⟨hrun, hl, hpos⟩ := h.directRuns j hj
    exact ⟨hrun, hlive j hl, hpos⟩

/-- A station FAULTED, with its DIRECT ended. -/
theorem MidRun.faulted (h : MidRun (fun _ => False) s) (i : Fin 4) {x : StationRt} {d : Direct}
    (hx : x.state = .faulted) (hd : d.active = false) :
    MidRun (fun _ => False) ((s.setStation i x).setDirects (s.directs.set i d)) := by
  have hdir (j : Fin 4) : ((s.setStation i x).setDirects (s.directs.set i d)).direct j =
      if j = i then d else s.direct j := Four.get_set _ _ _ _
  have hst (j : Fin 4) : ((s.setStation i x).setDirects (s.directs.set i d)).station j =
      if j = i then x else s.station j := Four.get_set _ _ _ _
  refine ⟨fun hm => ⟨(h.config hm).1, fun j => ?_, (h.config hm).2.2⟩, fun g hg =>
    ⟨(h.engagedRuns g hg).1, fun j hj => ?_⟩, fun _ hf => hf.elim, fun j hj => ?_, h.check, h.entries⟩
  · rw [hdir]
    split
    · exact hd
    · exact (h.config hm).2.1 j
  · rw [hdir, hst]
    split
    · exact ⟨.inr hx, hd⟩
    · exact (h.engagedRuns g hg).2 j hj
  · rw [hdir] at hj
    rw [hdir, hst]
    split at hj
    · rw [hd] at hj
      cases hj
    case isFalse hne =>
      rw [if_neg hne, if_neg hne]
      exact h.directRuns j hj

theorem directEnded_active (c : EndCause) (d : Direct) : (directEnded c d).active = false := by
  cases hd : d.active <;> simp [directEnded, hd]

/-- R20, R83: an entry to FAULTED ends the station's DIRECT. -/
theorem MidRun.enterFaulted (h : MidRun (fun _ => False) s) (i : Fin 4) (r : StationReason) :
    MidRun (fun _ => False) (enterFaulted i r s) := by
  have hmid := h.faulted i (x := { s.station i with state := .faulted, reason := r })
    (d := directEnded .stationLost (s.direct i)) rfl (directEnded_active _ _)
  unfold Machine.enterFaulted
  rw [endDirect_eq]
  refine hmid.of_eq ?_ ?_ ?_ ?_ ?_ ?_ ?_ fun j => ?_ <;> rw [writeEvents_eq_setReport] <;> simp

theorem midRun_intakeKeeps (i : Fin 4) : IntakeKeeps (MidRun fun _ => False) i where
  station _ _ hx hs := hs.setStation hx
  event _ b hs := hs.writeEvent b
  faulted _ r _ hs := hs.enterFaulted i r

theorem MidRun.measured (h : MidRun (fun _ => False) s) : MidRun (fun _ => False) (stationIntake s) :=
  intake_stationIntake midRun_intakeKeeps h

theorem MidRun.motion (h : MidRun S s) : MidRun S (motionStage s) :=
  h.of_eq rfl rfl rfl rfl rfl rfl rfl fun i => by
    rw [show (motionStage s).station i = _ from Four.get_tabulate _ i, updateMotion]
    split <;> rfl

/-! ### The groups' stages -/

/-- R44: after the member test the members of an engaged group are LIVE or STALE. -/
theorem MidRun.memberTest (h : MidRun S s) (g : Fin 2) :
    MidRun (fun k => k = g ∨ S k) (memberTest g s) := by
  unfold Machine.memberTest
  split
  case isTrue =>
    have hbroken := h.breakGroup g .memberFault
    refine { hbroken with sorted := fun k hk hg => ?_ }
    rcases hk with rfl | hk
    · simp [Machine.breakGroup, groupEvent, engaged_brokenRt] at hg
    · exact hbroken.sorted k hk hg
  case isFalse htest =>
    refine { h with sorted := fun k hk hg i hi => ?_ }
    rcases hk with rfl | hk
    · refine ((h.engagedRuns k hg).2 i hi).1.resolve_right fun hf => htest ?_
      simp only [hg, Bool.true_and, List.any_eq_true, decide_eq_true_eq]
      exact ⟨i, mem_membersOf.2 hi, hf⟩
    · exact h.sorted k hk hg i hi

theorem MidRun.applyReferenceChange (h : MidRun S s) (c : Bool) (g : Fin 2) :
    MidRun S (applyReferenceChange c g s) := by
  unfold Machine.applyReferenceChange
  split
  case isTrue hc =>
    simp only [Bool.and_eq_true] at hc
    exact (h.setGroup g _ fun _ => hc.2).writeEvent _
  case isFalse => exact h

theorem MidRun.referenceStage (h : MidRun S s) (c : Bool) (g : Fin 2) :
    MidRun (fun k => k = g ∨ S k) (referenceStage c g s) := by
  unfold Machine.referenceStage
  dsimp only
  split
  case isTrue hnone =>
    refine { h with sorted := fun k hk hg i hi => ?_ }
    rcases hk with rfl | hk
    · simp [isMember, hnone] at hi
    · exact h.sorted k hk hg i hi
  case isFalse =>
    have hmid := (h.memberTest g).applyReferenceChange c g
    refine hmid.setGroup g _ fun hx => ?_
    rwa [engaged, show (statusOr _ g _).state = _ from (pushReference_keeps _ _ _).1.trans
      (takeReferences_keeps _ g).1] at hx

theorem judgeLock_state (r : GroupRec) (x : GroupRt) : (judgeLock r x).1.state = x.state := by
  unfold judgeLock
  split
  · rfl
  · unfold countSlip
    split <;> rfl
  · unfold countRecovery
    dsimp only
    split <;> rfl
  · rfl
  · rfl

theorem MidRun.lockStage (h : MidRun S s) (g : Fin 2) : MidRun S (lockStage g s) := by
  unfold Machine.lockStage
  dsimp only
  split
  · exact h
  · rw [engaged_setAuthority]
    split
    case isTrue he =>
      unfold carryVerdict
      split
      · exact h.setGroup g _ fun _ => he
      · exact (h.setGroup g _ fun _ => he).writeEvent _
      · exact (h.setGroup g _ fun _ => he).writeEvent _
      · exact (h.setGroup g _ fun _ => he).breakGroup g _
    case isFalse =>
      refine h.setGroup g _ fun hx => ?_
      rwa [← engaged_setAuthority (s.store.groups.get g)]

/-- R92 to R95: the probe stage ends a check whose group is not LOCKED, and one that is complete. -/
theorem MidRun.probeStage (h : MidRun S s) (hS : ∀ g, S g) : RunSound (probeStage s).1 := by
  have hended {u : State} (hu : MidRun S u) (a : CheckResult) (b : CheckReason) (o : CheckOutcome) :
      RunSound (endCheck a b o u) := by
    have hoff : MidRun S ((u.setCheck { u.check with running := false }).setLastCheck (lastCheckOf u.check a b)) :=
      { hu with check := fun hr => (by cases hr) }
    exact (hoff.writeEvent _).runSound hS (by simp)
  unfold Machine.probeStage
  split
  case isTrue hrun =>
    split
    case isTrue hlocked =>
      have hpeak : MidRun S (updatePeak s) := { h with check := h.check }
      dsimp only
      split
      · unfold judgeCheck
        split
        · exact hended hpeak _ _ _
        · exact hended (hpeak.latch _) _ _ _
      case isFalse hne =>
        have hle := h.check hrun
        have hnext : MidRun S ((updatePeak s).setCheck
            { (updatePeak s).check with elapsed := (updatePeak s).check.elapsed + 1 }) :=
          { hpeak with check := fun _ => Nat.lt_of_le_of_ne hle hne }
        exact hnext.runSound hS fun _ => hlocked
    case isFalse => exact hended h _ _ _
  case isFalse hidle => exact h.runSound hS fun hr => absurd hr hidle

/-! ### Assembly -/

theorem setPointOf_of_forced {forces : Four (Int × Int)} {probe : Four Int} {i : Fin 4}
    (h : forcedSafe s i = true) : setPointOf s forces probe i = SetPoint.safe s.pacing.serial := by
  simp [setPointOf, sourceOf, h]

/-- R70: a set-point whose source is SAFE is the SAFE entry. -/
theorem setPointOf_of_safe {forces : Four (Int × Int)} {probe : Four Int} {i : Fin 4}
    (h : (setPointOf s forces probe i).source = .safe) :
    setPointOf s forces probe i = SetPoint.safe s.pacing.serial := by
  unfold setPointOf at h ⊢
  split at h <;> simp_all [drivenSetPoint]

theorem runSound_storeSetPoints (hs : RunSound s) (forces : Four (Int × Int)) (probe : Four Int) :
    RunSound (storeSetPoints (Four.tabulate (setPointOf s forces probe)) s) := by
  obtain ⟨⟨hconfig, hengaged, hdirect, hcheck⟩, hentries⟩ := hs
  have hpoint (i : Fin 4) : ((storeSetPoints (Four.tabulate (setPointOf s forces probe)) s).setpoints.get i) =
      setPointOf s forces probe i := Four.get_tabulate _ i
  have hlive (i : Fin 4) : liveOrStale ((storeSetPoints (Four.tabulate (setPointOf s forces probe)) s).station i)
      = liveOrStale (s.station i) := by
    rw [show State.station (storeSetPoints _ s) i = _ from Four.get_tabulate _ i]
    rfl
  refine ⟨⟨fun hm => ⟨(hconfig hm).1, (hconfig hm).2.1, fun i => ?_⟩, fun g hg =>
    ⟨(hengaged g hg).1, fun i hi => ?_⟩, fun i hi => ?_, hcheck⟩, fun i hi => ?_⟩
  · have hm' : s.mgmt.mode = .config := hm
    rw [hpoint, setPointOf_of_forced (by simp [forcedSafe, hm'])]
    rfl
  · rw [hlive]
    exact (hengaged g hg).2 i hi
  · rw [hlive]
    exact hdirect i hi
  · rw [hpoint] at hi ⊢
    rw [setPointOf_of_safe hi]
    exact ⟨rfl, rfl, rfl⟩

/-- One DIRECT counted down or ended. -/
theorem RunSound.setDirect (hs : RunSound s) (i : Fin 4) (d : Direct)
    (hd : d.active = true → (s.direct i).active = true ∧ 0 < d.remaining) : RunSound (s.setDirect i d) := by
  obtain ⟨⟨hconfig, hengaged, hdirect, hcheck⟩, hentries⟩ := hs
  have hoff {j : Fin 4} (hj : (s.direct j).active = false) : ((s.setDirect i d).direct j).active = false := by
    rw [State.direct_setDirect]
    split
    case isTrue heq =>
      subst heq
      refine Bool.eq_false_iff.2 fun hact => ?_
      rw [hj] at hd
      cases (hd hact).1
    case isFalse => exact hj
  refine ⟨⟨fun hm => ⟨(hconfig hm).1, fun j => hoff ((hconfig hm).2.1 j), (hconfig hm).2.2⟩, fun g hg =>
    ⟨(hengaged g hg).1, fun j hj => ⟨((hengaged g hg).2 j hj).1, hoff ((hengaged g hg).2 j hj).2⟩⟩, fun j hj => ?_,
    hcheck⟩, hentries⟩
  rw [State.direct_setDirect] at hj ⊢
  split at hj
  case isTrue heq =>
    subst heq
    rw [if_pos rfl]
    obtain ⟨hact, hpos⟩ := hd hj
    exact ⟨(hdirect j hact).1, (hdirect j hact).2.1, hpos⟩
  case isFalse hne =>
    rw [if_neg hne]
    exact hdirect j hj

theorem RunSound.writeEvent (hs : RunSound s) (b : EventBody) : RunSound (writeEvent b s) :=
  hs.of_same ⟨by simp, by simp, by simp, by simp, by simp, by simp, by simp [running], by simp⟩

theorem RunSound.endDirect (hs : RunSound s) (c : EndCause) (i : Fin 4) : RunSound (endDirect c i s) := by
  unfold Machine.endDirect
  split
  · exact (hs.setDirect i _ (by simp)).writeEvent _
  · exact hs

theorem RunSound.countDirect (hs : RunSound s) (i : Fin 4) : RunSound (countDirect s i) := by
  unfold Machine.countDirect
  split
  case isTrue hact =>
    dsimp only
    split
    case isTrue hzero =>
      rw [endDirect_of_active _ (by simpa using hact.2)]
      have hset : ∀ d d', (s.setDirect i d).setDirects ((s.setDirect i d).directs.set i d') = s.setDirect i d' :=
        fun d d' => by simp [State.setDirect, Four.set_set, State.setDirects]
      rw [hset]
      exact (hs.setDirect i _ (by simp)).writeEvent _
    case isFalse hpos =>
      exact hs.setDirect i _ fun _ => ⟨hact.2, Nat.pos_of_ne_zero (by simpa using hpos)⟩
  case isFalse => exact hs

theorem RunSound.assembly (hs : RunSound s) (forces : Four (Int × Int)) (probe : Four Int) :
    RunSound (assembly forces probe s) :=
  foldl_invariant RunSound _ (fun _ i hu => hu.countDirect i) four _ (runSound_storeSetPoints hs forces probe)

/-- A change that keeps the pacing state too. -/
theorem RunSound.of_eq (hs : RunSound s) (hm : t.mgmt.mode = s.mgmt.mode) (hg : t.groups = s.groups)
    (hd : t.directs = s.directs) (hp : t.setpoints = s.setpoints) (hr : t.store.groups = s.store.groups)
    (hc : t.check = s.check) (hrun : t.pacing.state = s.pacing.state)
    (hst : ∀ i, (t.station i).state = (s.station i).state) : RunSound t :=
  hs.of_same ⟨hm, hg, hd, hp, hr, hc, fun h => by rwa [running, hrun], fun i h => by rwa [liveOrStale, hst]⟩

theorem RunSound.latch (hs : RunSound s) (f : Flag) : RunSound (latch f s) :=
  hs.of_eq rfl rfl rfl rfl rfl rfl rfl fun _ => rfl

theorem RunSound.setDemand (hs : RunSound s) (d : EffDemand) : RunSound (s.setDemand d) :=
  hs.of_eq rfl rfl rfl rfl rfl rfl rfl fun _ => rfl

theorem RunSound.setPort (hs : RunSound s) (x : Port) : RunSound (s.setPort x) :=
  hs.of_eq rfl rfl rfl rfl rfl rfl rfl fun _ => rfl

theorem RunSound.demandStage (hs : RunSound s) : RunSound (demandStage s).1 := by
  refine RunSound.setDemand ?_ _
  unfold demandIntake adopt ageDemand loseDemand
  dsimp only
  split
  · split
    · exact ((hs.setDemand _).setPort _).writeEvent _
    · exact (hs.setDemand _).setPort _
  · split
    · exact (((hs.setDemand _).setDemand _).latch _).writeEvent _
    · exact hs.setDemand _

theorem RunSound.perCycleUplink (hs : RunSound s) : RunSound (perCycleUplink s) := by
  unfold Machine.perCycleUplink
  split
  · exact hs.setPort _
  · refine foldl_invariant RunSound _ (fun u item hu => ?_) _ _ ?_
    · split
      · exact hu.of_eq rfl rfl rfl rfl rfl rfl rfl fun _ => rfl
      · exact hu
    · exact (hs.setPort _).of_eq rfl rfl rfl rfl rfl rfl rfl fun _ => rfl

theorem RunSound.computePoint (hs : RunSound s) : RunSound (computePoint s) := by
  have hcut : RunSound (s.setPacing { s.pacing with cpDue := none }) :=
    hs.of_eq rfl rfl rfl rfl rfl rfl rfl fun _ => rfl
  have hmeasured : MidRun (fun k => k = 1 ∨ k = 0 ∨ False)
      (measureStages (s.setPacing { s.pacing with cpDue := none })) :=
    (hcut.demandStage.midRun.measured.motion.referenceStage _ 0).referenceStage _ 1
  have hboth : ∀ g : Fin 2, g = 1 ∨ g = 0 ∨ False := by decide
  exact ((((hmeasured.lockStage 0).lockStage 1).probeStage hboth).assembly _ _).perCycleUplink

/-! ## The entry to HALTED, RESTART, the loads -/

theorem engaged_openedRt (r : GroupReason) (x : GroupRt) : engaged (openedRt r x) = false := rfl

theorem runSound_segKeeps : SegKeeps RunSound where
  seg _ _ _ _ hs := hs.of_eq rfl rfl rfl rfl rfl rfl rfl fun _ => rfl
  init s i v hs := hs.of_eq rfl rfl rfl rfl rfl rfl rfl fun j => by
    rw [setInit, State.station_setStation]
    split
    case isTrue h => subst h; rfl
    case isFalse => rfl
  slew s i hs := hs.of_eq rfl rfl rfl rfl rfl rfl rfl fun j => by
    rw [State.station_setStation]
    split
    case isTrue h => subst h; rfl
    case isFalse => rfl
  event _ b hs := hs.writeEvent b
  latch _ f hs := hs.latch f
  free _ _ hs := hs.of_eq rfl rfl rfl rfl rfl rfl rfl fun _ => rfl

theorem RunSound.enterHalted (hs : RunSound s) (r : HaltReason) (c : Bool) : RunSound (enterHalted r c s) := by
  rw [enterHalted_eq]
  refine keeps_bothSegments runSound_segKeeps _ _ ?_
  rw [writeEvents_eq_setReport]
  generalize (writeEvents _ s).report = report
  refine AtRest.runSound_of ⟨fun g => ?_, fun i => ?_, rfl⟩ hs rfl rfl
  · refine (congrArg engaged (Two.get_tabulate _ g)).trans ?_
    cases hg : engaged (s.group g) <;> simp [hg, engaged_openedRt]
  · exact (congrArg Direct.active (Four.get_tabulate _ i)).trans (directEnded_active _ _)

theorem runSound_restartMachines (s : State) : RunSound (restartMachines s) := by
  obtain ⟨hsafe, hentries⟩ := safeEntries_safe (s := restartMachines s) (f := fun _ => s.pacing.serial) rfl
  refine AtRest.runSound ⟨fun g => ?_, fun i => ?_, rfl⟩ (fun _ => hsafe) hentries
  · exact congrArg engaged (Two.get_tabulate _ g)
  · exact congrArg Direct.active (Four.get_tabulate _ i)

theorem RunSound.loaded (hs : RunSound s) (hl : Loaded s t) : RunSound t := by
  have rest {u : State} (hm : s.mgmt.mode = .config) (hg : ∀ g, engaged (u.group g) = false)
      (hd : u.directs = s.directs) (hc : u.check = s.check) (hp : u.setpoints = s.setpoints) : RunSound u := by
    have hrest := hs.atRest hm
    have hdirects : ∀ i, (u.direct i).active = false := by rw [direct_congr hd]; exact hrest.directs
    refine AtRest.runSound ⟨hg, hdirects, hc ▸ hrest.check⟩ (fun _ => ?_) ?_
    · rw [hp]
      exact (hs.1.config hm).2.2
    · rw [SafeEntries, hp]
      exact hs.2
  have restSame {u : State} (hm : s.mgmt.mode = .config) (hg : u.groups = s.groups)
      (hd : u.directs = s.directs) (hc : u.check = s.check) (hp : u.setpoints = s.setpoints) : RunSound u :=
    rest hm (fun g => by rw [group_congr hg]; exact (hs.atRest hm).groups g) hd hc hp
  cases hl with
  | schedule => exact hs.of_eq rfl rfl rfl rfl rfl rfl rfl fun _ => rfl
  | group hm g r =>
    refine rest hm (fun k => ?_) rfl rfl rfl
    rw [placeGroup, State.group_setGroup]
    split
    · rfl
    · exact (hs.atRest hm).groups k
  | cell hm => exact restSame hm rfl rfl rfl rfl
  | road hm => exact restSame hm rfl rfl rfl rfl
  | placed hm => exact restSame hm rfl rfl rfl rfl
  | removed hm => exact restSame hm rfl rfl rfl rfl
  | slot hm => exact restSame hm rfl rfl rfl rfl

/-! ## The requests that act on a running machine -/

theorem RunSound.enterOperate (hs : RunSound s) : RunSound (enterOperate s).1 := by
  unfold Machine.enterOperate
  split
  · exact hs
  case isFalse hm =>
    split
    · exact hs
    · have hconfig : s.mgmt.mode = .config := by cases h : s.mgmt.mode <;> simp_all
      obtain ⟨hg, hd, hc⟩ := hs.atRest hconfig
      refine AtRest.runSound ⟨fun g => ?_, fun i => ?_, ?_⟩ (fun h => ?_) ?_
      · simpa [changeMode] using hg g
      · simpa [changeMode] using hd i
      · simpa [changeMode] using hc
      · simp [changeMode] at h
      · simpa [changeMode, SafeEntries] using hs.2

theorem enterConfig_cases (s : State) : (enterConfig s).1 = s ∨
    s.mgmt.mode = .operate ∧ (∀ g, engaged (s.group g) = false) ∧ ∀ i, (s.direct i).active = false := by
  cases hm : s.mgmt.mode with
  | config => exact .inl (by rw [enterConfig_of_config hm])
  | operate =>
    unfold enterConfig
    simp only [hm, reduceCtorEq, if_false]
    split
    · exact .inl rfl
    case h_2 hg =>
      split
      · exact .inl rfl
      case h_2 hd =>
        refine .inr ⟨trivial, fun g => ?_, fun i => ?_⟩
        · have hall := List.find?_eq_none.1 hg g (by fin_cases g <;> simp)
          simpa using hall
        · have hall := List.find?_eq_none.1 hd i (by fin_cases i <;> simp [four])
          simpa using hall

theorem RunSound.enterConfig (hs : RunSound s) : RunSound (enterConfig s).1 := by
  rcases enterConfig_cases s with heq | ⟨hm, hg, hd⟩
  · rwa [heq]
  · rw [enterConfig_of_idle hm hg hd, writeEvents_eq_setReport]
    have hc : s.check.running = false := Bool.eq_false_iff.2 fun hc =>
      Bool.eq_false_iff.1 (hg _) (engaged_iff.2 (.inr (.inl (hs.1.checkLocked hc).1)))
    obtain ⟨hsafe, hentries⟩ := safeEntries_safe (s := s.setSetpoints (Four.tabulate fun _ =>
      SetPoint.safe s.pacing.serial)) (f := fun _ => s.pacing.serial) rfl
    refine AtRest.runSound ⟨fun g => ?_, hd, hc⟩ (fun _ => hsafe) hentries
    refine (congrArg engaged (Two.get_tabulate _ g)).trans ?_
    split
    · rfl
    · exact hg g

/-- A change of one group that leaves it OPEN, where no check runs on it. -/
theorem RunSound.openGroup (hs : RunSound s) (g : Fin 2) (r : GroupReason)
    (hc : s.check.running = true → s.check.group ≠ g) : RunSound (openGroup g r s) := by
  obtain ⟨⟨hconfig, hengaged, hdirect, hcheck⟩, hentries⟩ := hs
  have hold {k : Fin 2} (hk : engaged ((s.setGroup g (openedRt r (s.group g))).group k) = true) :
      engaged (s.group k) = true := by
    rw [State.group_setGroup] at hk
    split at hk
    · cases hk
    · exact hk
  have hopened : RunSound (s.setGroup g (openedRt r (s.group g))) := by
    refine ⟨⟨fun hm => ⟨fun k => Bool.eq_false_iff.2 fun hk => ?_, (hconfig hm).2⟩, fun k hk =>
      hengaged k (hold hk), hdirect, fun hr => ?_⟩, hentries⟩
    · exact Bool.eq_false_iff.1 ((hconfig hm).1 k) (hold hk)
    · have hkept : (s.setGroup g (openedRt r (s.group g))).group s.check.group = s.group s.check.group := by
        rw [State.group_setGroup, if_neg (hc hr)]
      exact ⟨(congrArg GroupRt.state hkept).trans (hcheck hr).1, (hcheck hr).2⟩
  exact hopened.writeEvent _

theorem RunSound.abortCheck (hs : RunSound s) (q : CheckReason) : RunSound (abortCheck q s) := by
  obtain ⟨⟨hconfig, hengaged, hdirect, -⟩, hentries⟩ := hs
  rw [abortCheck_eq, writeEvents_eq_setReport]
  exact ⟨⟨hconfig, hengaged, hdirect, fun hr => (by cases hr)⟩, hentries⟩

theorem RunSound.release (hs : RunSound s) (args : List Byte) : RunSound (release args s).1 := by
  unfold Machine.release
  split
  · split
    · exact hs
    · dsimp only
      split
      · exact hs
      · unfold releaseGroup
        split
        · exact (hs.abortCheck _).openGroup _ _ fun hr => by simp [abortCheck_eq] at hr
        case isFalse hne => exact hs.openGroup _ _ fun _ => hne
  · exact hs

theorem engageRefusal_eq_none {g : Fin 2} (h : engageRefusal s g = none) :
    (s.group g).state = .opened ∧ running s = true ∧
      ∀ i, isMember (s.store.groups.get g) i = true →
        (s.station i).state = .live ∧ (s.direct i).active = false := by
  unfold engageRefusal at h
  dsimp only at h
  split at h
  · cases h
  case isFalse hopen =>
    split at h
    · cases h
    · split at h
      · cases h
      case isFalse hrun =>
        split at h
        · cases h
        case h_2 hlive =>
          split at h
          · cases h
          case h_2 hoff =>
            refine ⟨by simpa using hopen, by simpa using hrun, fun i hi => ⟨?_, ?_⟩⟩
            · simpa using find?_membersOf_eq_none_iff.1 hlive i hi
            · exact find?_membersOf_eq_none_iff.1 hoff i hi

theorem RunSound.engage (hs : RunSound s) (args : List Byte) : RunSound (engage args s).1 := by
  unfold Machine.engage
  split
  · split
    · exact hs
    · split
      · exact hs
      case isFalse hmode =>
        dsimp only
        split
        · exact hs
        case h_2 n _ _ hnone =>
          obtain ⟨hopen, hrun, hmembers⟩ := engageRefusal_eq_none hnone
          obtain ⟨⟨hconfig, hengaged, hdirect, hcheck⟩, hentries⟩ := hs
          refine RunSound.writeEvent (s := s.setGroup _ _) ⟨⟨fun hm => ?_, fun k hk => ?_, hdirect, fun hr => ?_⟩,
            hentries⟩ _
          · exact absurd (show s.mgmt.mode = .config from hm) (by simp_all)
          · rw [State.group_setGroup] at hk
            split at hk
            case isTrue heq =>
              subst heq
              exact ⟨hrun, fun i hi => ⟨by simp [liveOrStale, hmembers i hi], (hmembers i hi).2⟩⟩
            case isFalse => exact hengaged k hk
          · rw [State.group_setGroup, if_neg]
            · exact hcheck hr
            · intro heq
              have hlocked := (hcheck hr).1
              rw [show s.check.group = _ from heq, hopen] at hlocked
              cases hlocked
  · exact hs

theorem RunSound.startCheck (hs : RunSound s) (args : List Byte) : RunSound (startCheck args s).1 := by
  unfold Machine.startCheck
  dsimp only
  split
  · split
    · exact hs
    · split
      · exact hs
      · split
        · exact hs
        case isFalse hlocked =>
          split
          · exact hs
          · split
            · exact hs
            · obtain ⟨⟨hconfig, hengaged, hdirect, -⟩, hentries⟩ := hs
              exact ⟨⟨hconfig, hengaged, hdirect, fun _ => ⟨not_not.1 hlocked, Nat.zero_le _⟩⟩, hentries⟩
  · exact hs

theorem directRefusal_eq_none {i : Fin 4} {torque : Int} (h : directRefusal s i torque = none) :
    running s = true ∧ liveOrStale (s.station i) = true ∧
      ∀ g, isMember (s.store.groups.get g) i = true → engaged (s.group g) = false := by
  unfold directRefusal at h
  split at h
  · cases h
  · split at h
    · cases h
    case isFalse hrun =>
      split at h
      · cases h
      case isFalse hlive =>
        split at h
        · cases h
        case h_2 hfree =>
          refine ⟨by simpa using hrun, by simpa using hlive, fun g hg => ?_⟩
          have hall := List.find?_eq_none.1 hfree g (by fin_cases g <;> simp)
          simpa [hg] using hall

theorem RunSound.startDirect (hs : RunSound s) {i : Fin 4} {torque : Int} {duration : Nat}
    (hm : s.mgmt.mode ≠ .config) (hpos : 0 < duration) (hr : directRefusal s i torque = none) :
    RunSound (startDirect i torque duration s) := by
  obtain ⟨hrun, hlive, hfree⟩ := directRefusal_eq_none hr
  obtain ⟨⟨hconfig, hengaged, hdirect, hcheck⟩, hentries⟩ := hs
  rw [startDirect_eq, writeEvents_eq_setReport]
  generalize (if (s.direct i).active then EndCause.replaced else (s.direct i).endCause) = cause
  generalize (writeEvents _ s).report = report
  let d : Direct := { active := true, torque := torque, remaining := duration, endCause := cause }
  have hdir (j : Fin 4) : (s.directs.set i d).get j = if j = i then d else s.direct j := Four.get_set _ _ _ _
  refine ⟨⟨fun h => absurd h hm, fun g hg => ⟨(hengaged g hg).1, fun j hj => ⟨((hengaged g hg).2 j hj).1, ?_⟩⟩,
    fun j hj => ?_, hcheck⟩, hentries⟩
  · refine (congrArg Direct.active (hdir j)).trans ?_
    rw [if_neg]
    · exact ((hengaged g hg).2 j hj).2
    · rintro rfl
      have hoff := hfree g hj
      rw [show engaged (s.group g) = true from hg] at hoff
      cases hoff
  · refine ⟨hrun, ?_⟩
    have hj' : ((s.directs.set i d).get j).active = true := hj
    show liveOrStale (s.station j) = true ∧ 0 < ((s.directs.set i d).get j).remaining
    rw [hdir] at hj' ⊢
    split at hj'
    case isTrue heq =>
      subst heq
      exact ⟨hlive, by simpa using hpos⟩
    case isFalse hne =>
      rw [if_neg hne]
      exact (hdirect j hj').2

theorem RunSound.directTorque (hs : RunSound s) (args : List Byte) : RunSound (directTorque args s).1 := by
  unfold Machine.directTorque
  split
  · dsimp only
    split
    · exact hs
    · split
      · exact hs
      case isFalse hmode =>
        split
        · exact hs.endDirect _ _
        case isFalse hpos =>
          split
          · exact hs
          case h_2 hnone => exact hs.startDirect (by simp_all) (Nat.pos_of_ne_zero hpos) hnone
  · exact hs

theorem RunSound.clearFlag (hs : RunSound s) (mask : BitVec 18) (f : Flag) : RunSound (clearFlag mask s f) := by
  have hreport {u : State} (hu : RunSound u) (x : Report) : RunSound (u.setReport x) :=
    hu.of_eq rfl rfl rfl rfl rfl rfl rfl fun _ => rfl
  unfold Machine.clearFlag
  split
  · have htreat : RunSound (treatFlag f s) := by
      unfold treatFlag
      split
      · exact hreport hs _
      · exact keeps_clearJam runSound_segKeeps _ hs
      · unfold retest
        split
        case isTrue hf =>
          refine hs.of_same ⟨rfl, rfl, rfl, rfl, rfl, rfl, id, fun j hj => ?_⟩
          rw [State.station_setStation, if_neg]
          · exact hj
          · rintro rfl
            simp [liveOrStale, hf.1] at hj
        case isFalse => exact hs
      all_goals exact hs
    dsimp only
    split
    · exact htreat
    · exact hreport htreat _
  · exact hs

theorem RunSound.requestBody (hs : RunSound s) (code : Byte) (args : List Byte) :
    RunSound (requestBody code args s).1 := by
  have load {body : Request} (hb : (body s).1 = s ∨ Loaded s (body s).1) : RunSound (body s).1 := by
    rcases hb with hb | hb
    · rwa [hb]
    · exact hs.loaded hb
  have hpending : RunSound (haltRequest s).1 := by
    unfold haltRequest
    split <;> first | exact hs | exact hs.of_eq rfl rfl rfl rfl rfl rfl rfl fun _ => rfl
  have hstop : RunSound (stopRequest s).1 := by
    have hdue : RunSound (s.setPacing { s.pacing with localDue := nextLocal s }) :=
      hs.of_eq rfl rfl rfl rfl rfl rfl rfl fun _ => rfl
    unfold stopRequest
    split <;> first | exact hs | exact hdue.enterHalted _ _
  have habort : RunSound (abortRequest s).1 := by
    unfold abortRequest
    split
    · exact hs.abortCheck _
    · exact hs
  have hrestart : RunSound (Machine.restart s).1 := runSound_restartMachines _
  have hclear : RunSound (clearFaults args s).1 := by
    unfold clearFaults
    split
    · split
      · exact hs
      · exact foldl_invariant RunSound _ (fun _ f hu => hu.clearFlag _ f) _ _ hs
    · exact hs
  exact requestBody_cases (Q := fun body => RunSound (body s).1) code args
    (load (loadCell_loaded args s)) (load (loadRoadload_loaded args s)) (load (loadStation_loaded args s))
    (load (loadGroup_loaded args s)) (load (loadSlot_loaded args s)) (load (loadSchedule_loaded args s))
    ((readTable_state args s).symm ▸ hs) ((readRuntime_state args s).symm ▸ hs)
    (stable_noArgs _ args (hs.of_eq rfl rfl rfl rfl rfl rfl rfl fun _ => rfl) hs) (stable_noArgs _ args hs hs)
    (stable_noArgs _ args hs.enterOperate hs) (stable_noArgs _ args hs.enterConfig hs)
    (stable_noArgs _ args hrestart hs) (stable_noArgs _ args hpending hs) (stable_noArgs _ args hstop hs)
    (hs.engage args) (hs.release args) (hs.startCheck args) (stable_noArgs _ args habort hs)
    (hs.directTorque args) hclear hs

theorem runSound_keeps : Keeps RunSound where
  toSegKeeps := runSound_segKeeps
  queue _ _ hs := hs.of_eq rfl rfl rfl rfl rfl rfl rfl fun _ => rfl
  clock _ _ hs := hs.of_eq rfl rfl rfl rfl rfl rfl rfl fun _ => rfl
  port _ x _ hs := hs.setPort x
  pacing _ x hx hs := hs.of_same ⟨rfl, rfl, rfl, rfl, rfl, rfl, fun h => by
    simp only [running, Bool.or_eq_true, decide_eq_true_eq] at h ⊢
    exact hx.runs h, fun _ => id⟩
  mgmt _ _ hm _ hs := hs.of_eq hm rfl rfl rfl rfl rfl rfl fun _ => rfl
  halted _ r c hs := hs.enterHalted r c
  point _ hs := hs.computePoint
  body _ code args hs := hs.requestBody code args
  hard _ _ := RunSound.of_eq (s := State.reset) ⟨Sys2Proof.Proofs.resetIsSafe.run,
    Sys2Proof.Proofs.resetIsSafe.entries⟩ rfl rfl rfl rfl rfl rfl rfl fun _ => rfl

end Sys2Proof.Machine
end

section
/-! PROOF. The consistency of the running machines (R44, R62, R70, R80, R83, R91, R93, R179, R180): the stages of
a computation point restore it by its end, every request and every entry to HALTED keeps it. -/

namespace Sys2Proof.Proofs

open Sys2Proof.Machine

/-- Settles O57: what runs is checked where it starts and ended where its conditions go. -/
theorem runConsistentKept : Obligations.RunConsistentKept :=
  fun _ _ hrun hentries _ hstep => keeps_step runSound_keeps ⟨hrun, hentries⟩ hstep

end Sys2Proof.Proofs
end

section
/-! SUPPORT. Requests turned away: argument bytes that do not fit, answers other than DONE, loads in OPERATE. -/

namespace Sys2Proof.Machine

variable {s : State}

/-! ## Argument bytes that do not fit (R171, R198) -/

theorem splitFields_eq_none {ws : List Nat} {args : List Byte} (h : args.length ≠ ws.sum) :
    splitFields ws args = none := by
  rw [← Option.not_isSome_iff_eq_none, splitFields_isSome]
  simpa using h

theorem noArgs_misfit (body : Request) {args : List Byte} (h : args.length ≠ 0) :
    noArgs body args s = (s, badFit) := by
  cases args with
  | nil => simp at h
  | cons b bs => rfl

theorem loadRoadload_misfit {args : List Byte}
    (h : args.length = 0 ∨ args.length ≠ 1 + 5 * (args.headD 0).toNat + 3) :
    loadRoadload args s = (s, badFit) := by
  cases args with
  | nil => rfl
  | cons count bytes =>
    have hlen : bytes.length ≠ 5 * count.toNat + 3 := by
      simp only [List.length_cons, List.headD_cons] at h
      omega
    simp [loadRoadload, hlen]

/-- R171: bytes that do not fit a known code are refused before any other test. -/
theorem requestBody_misfit {code : Byte} {args : List Byte} (h : argumentsFit code args = false) :
    requestBody code args s = (s, badFit) := by
  unfold argumentsFit at h
  unfold requestBody
  split at h <;> simp only [Bool.and_eq_false_iff, decide_eq_false_iff_not, reduceCtorEq] at h
  case h_2 hc =>
    rw [hc]
    exact loadRoadload_misfit (h.imp (fun h => by omega) id)
  all_goals
    rename_i hc
    rw [hc]
    first
      | exact noArgs_misfit _ h
      | simp [loadCell, loadStation, loadGroup, loadSlot, loadSchedule, readTable, readRuntime, engage, release,
          startCheck, directTorque, clearFaults, cellWidths, stationWidths, groupWidths, slotWidths,
          scheduleWidths, splitFields_eq_none, h]

/-! ## An answer other than DONE (R171) -/

/-- An answer other than DONE leaves the state `s` as it was. -/
def DoneOrKept (s : State) (out : State × Answer) : Prop := out.2.result ≠ .done → out.1 = s

theorem doneOrKept_same (s : State) (a : Answer) : DoneOrKept s (s, a) := fun _ => rfl

theorem doneOrKept_done (s t : State) (n : Nat) (data : List Byte) : DoneOrKept s (t, doneWith n data) :=
  fun h => absurd rfl h

theorem doneOrKept_checkedLoad (checks : List (Nat × Bool)) (apply : State → State) (s : State) :
    DoneOrKept s (checkedLoad checks apply s) := by
  unfold checkedLoad
  split
  · exact doneOrKept_same s _
  · exact doneOrKept_done s _ 0 []

theorem doneOrKept_inConfig {body : Request} {s : State} (h : DoneOrKept s (body s)) :
    DoneOrKept s (inConfig body s) := by
  unfold inConfig
  split
  · exact doneOrKept_same s _
  · exact h

theorem doneOrKept_noArgs {body : Request} {args : List Byte} {s : State} (h : DoneOrKept s (body s)) :
    DoneOrKept s (noArgs body args s) := by
  unfold noArgs
  split
  · exact h
  · exact doneOrKept_same s _

theorem doneOrKept_requestBody (code : Byte) (args : List Byte) (s : State) :
    DoneOrKept s (requestBody code args s) := by
  have same := doneOrKept_same s
  have done := doneOrKept_done s
  have checked := fun checks apply => doneOrKept_checkedLoad checks apply s
  apply requestBody_cases (Q := fun body => DoneOrKept s (body s))
  case h2 =>
    unfold loadRoadload
    split
    · exact same _
    · extract_lets n
      split
      · exact same _
      · exact doneOrKept_inConfig (checked _ _)
  case h5 =>
    unfold loadSlot
    split
    · refine doneOrKept_inConfig ?_
      split
      · exact same _
      · extract_lets g
        split
        · exact same _
        · exact checked _ _
    · exact same _
  case h11 =>
    refine doneOrKept_noArgs ?_
    unfold enterOperate
    split
    · exact done _ _ _
    · split
      · exact same _
      · exact done _ _ _
  case h12 =>
    refine doneOrKept_noArgs ?_
    unfold enterConfig
    split
    · exact done _ _ _
    · split
      · exact same _
      · split
        · exact same _
        · exact done _ _ _
  case h16 =>
    unfold engage
    split
    · split
      · exact same _
      · split
        · exact same _
        · extract_lets g
          split
          · exact same _
          · exact done _ _ _
    · exact same _
  case h17 =>
    unfold release
    split
    · split
      · exact same _
      · extract_lets g
        split
        · exact done _ _ _
        · exact done _ _ _
    · exact same _
  case h18 =>
    unfold startCheck
    split
    · split
      · exact same _
      · extract_lets g i
        split_ifs <;> first | exact same _ | exact done _ _ _
    · exact same _
  case h20 =>
    unfold directTorque
    split
    · extract_lets i
      split
      · exact same _
      · split
        · exact same _
        · split
          · exact done _ _ _
          · split
            · exact same _
            · exact done _ _ _
    · exact same _
  case h21 =>
    unfold clearFaults
    split
    · split
      · exact same _
      · exact done _ _ _
    · exact same _
  case h1 =>
    unfold loadCell
    split
    · exact doneOrKept_inConfig (checked _ _)
    · exact same _
  case h3 =>
    unfold loadStation
    split
    · exact doneOrKept_inConfig (checked _ _)
    · exact same _
  case h4 =>
    unfold loadGroup
    split
    · exact doneOrKept_inConfig (checked _ _)
    · exact same _
  case h6 =>
    unfold loadSchedule
    split
    · exact checked _ _
    · exact same _
  case h7 => exact fun _ => readTable_state args s
  case h8 => exact fun _ => readRuntime_state args s
  case h9 => exact doneOrKept_noArgs (done _ _ _)
  case h10 => exact doneOrKept_noArgs (done _ _ _)
  case h13 => exact doneOrKept_noArgs (done _ _ _)
  case h14 =>
    refine doneOrKept_noArgs ?_
    unfold haltRequest
    split <;> first | exact same _ | exact done _ _ _
  case h15 =>
    refine doneOrKept_noArgs ?_
    unfold stopRequest
    split <;> first | exact same _ | exact done _ _ _
  case h19 =>
    refine doneOrKept_noArgs ?_
    unfold abortRequest
    split <;> exact done _ _ _
  case h22 => exact same _

/-! ## Loads in OPERATE (R173) -/

/-- The configuration store but for the schedule table. -/
def RecordsKept (s u : State) : Prop := u.store = { s.store with schedule := u.store.schedule }

theorem recordsKept_coreKeeps (s : State) : CoreKeeps (RecordsKept s) where
  queue _ _ hs := hs
  clock _ _ hs := hs
  free _ _ hs := hs
  port _ _ _ hs := hs
  pacing _ _ _ hs := hs
  mgmt _ _ _ hs := hs
  seg _ _ _ _ hs := hs
  stations _ _ _ hs := hs
  demand _ _ _ hs := hs
  group _ _ _ _ hs := hs
  setpoints _ _ hs := hs
  directs _ _ hs := hs
  check _ _ hs := hs
  lastCheck _ _ hs := hs
  report _ _ _ hs := hs
  restart _ hs := hs

/-- In OPERATE a load that passes replaces a schedule entry. -/
theorem recordsKept_loaded {s u t : State} (hm : u.mgmt.mode = .operate) (hl : Loaded u t)
    (hu : RecordsKept s u) : RecordsKept s t := by
  cases hl with
  | schedule n e => exact congrArg (fun x : Store => { x with schedule := u.store.schedule.set n e }) hu
  | cell hc | road hc | placed hc | removed hc | group hc | slot hc =>
    rw [hm] at hc
    cases hc

/-- A load whose argument bytes fit is refused in OPERATE before any check. -/
theorem load_of_operate {code : Byte} {args : List Byte}
    (hcode : code ∈ ([0x01, 0x02, 0x03, 0x04, 0x05] : List Byte)) (hfit : argumentsFit code args = true)
    (hm : s.mgmt.mode = .operate) :
    requestBody code args s = (s, { result := .wrongMode, detail := 0, data := [] }) := by
  have hconfig (body : Request) : inConfig body s = (s, { result := .wrongMode, detail := 0, data := [] }) := by
    simp [inConfig, hm, refusedWith]
  have hread {ws : List Nat} (h : args.length = ws.sum) :
      ∃ f : Nat → Nat, splitFields ws args = some ((List.range ws.length).map f) := by
    obtain ⟨ns, hns⟩ := Option.isSome_iff_exists.1 ((splitFields_isSome ws args).trans (decide_eq_true h))
    refine ⟨(ns.getD · 0), hns.trans (congrArg some ?_)⟩
    rw [← splitFields_length ws args ns hns]
    exact List.ext_getElem (by simp) fun j hj _ => by simp [hj]
  simp only [List.mem_cons, List.not_mem_nil, or_false] at hcode
  rcases hcode with rfl | rfl | rfl | rfl | rfl
  · obtain ⟨f, hf⟩ := hread (ws := cellWidths) (by simpa [argumentsFit, cellWidths] using hfit)
    show loadCell args s = _
    simp only [loadCell, hf]
    exact hconfig _
  · cases args with
    | nil => cases hfit
    | cons count bytes =>
      have hlen : bytes.length = 5 * count.toNat + 3 := by
        simp [argumentsFit] at hfit
        omega
      show loadRoadload (count :: bytes) s = _
      simp only [loadRoadload, hlen, ne_eq, not_true, if_false]
      exact hconfig _
  · obtain ⟨f, hf⟩ := hread (ws := stationWidths) (by simpa [argumentsFit, stationWidths] using hfit)
    show loadStation args s = _
    simp only [loadStation, hf]
    exact hconfig _
  · obtain ⟨f, hf⟩ := hread (ws := groupWidths) (by simpa [argumentsFit, groupWidths] using hfit)
    show loadGroup args s = _
    simp only [loadGroup, hf]
    exact hconfig _
  · obtain ⟨f, hf⟩ := hread (ws := slotWidths) (by simpa [argumentsFit, slotWidths] using hfit)
    show loadSlot args s = _
    simp only [loadSlot, hf]
    exact hconfig _

end Sys2Proof.Machine
end

section
/-! PROOF. Requests that are turned away (R169, R171), and loads in OPERATE (R173). -/

namespace Sys2Proof.Proofs

open Sys2Proof.Machine

/-- Settles O11: a full holder, an unknown code and misfitting bytes turn a request away before its body; a
body that does not answer DONE has changed nothing. -/
theorem requestsTurnedAway : Obligations.RequestsTurnedAway := by
  refine ⟨fun c s hh hc => ?full, fun s hh => ⟨fun t code tag args => ?unknown,
    fun c code tag args hw hc hfit => ?misfit⟩, fun c code tag args s hc hh => ?body⟩
  case full =>
    rcases hc with hc | ⟨t, rfl⟩
    · obtain ⟨⟨code, tag, args⟩, hreq⟩ := Option.isSome_iff_exists.1 hc
      obtain ⟨body, -, hexec⟩ := exec_takes s hreq
      rw [hexec, takeRequest, if_pos (show (arrive c.time s).mgmt.holder.isSome = true from hh)]
      rfl
    · simp only [exec, execRequestDropped, hh, if_true]
      rfl
  case unknown => exact takeRequest_of_empty (body := unknownRequest) code tag hh rfl
  case misfit =>
    rw [exec_request c code tag args hw hc]
    exact takeRequest_of_empty code tag hh (requestBody_misfit hfit)
  case body =>
    obtain ⟨body, hbody, hexec⟩ := exec_takes s hc
    refine ⟨(body (arrive c.time s)).2, (body (arrive c.time s)).1, ?_, ?_⟩
    · rw [hexec]
      exact takeRequest_of_empty code tag hh rfl
    · rcases hbody with rfl | rfl
      · exact doneOrKept_requestBody code args _
      · exact doneOrKept_same _ _

/-- Settles O16: the mode is tested before the checks of a load, and no other operation writes the records. -/
theorem loadsNeedConfig : Obligations.LoadsNeedConfig := by
  refine ⟨fun c code tag args s hw hc hcode hfit hh hm => ?refused, fun c s t hhard hm hexec => ?kept⟩
  case refused =>
    rw [exec_request c code tag args hw hc]
    exact takeRequest_of_empty code tag hh (load_of_operate (s := arrive c.time s) hcode hfit hm)
  case kept =>
    have hcore := recordsKept_coreKeeps s
    refine keeps_exec (P := RecordsKept s) hcore.flow (fun u code args hu hk => ?_)
      (fun n hn => absurd hn (hhard n)) rfl hexec
    exact core_requestBody hcore code args
      (fun t hl => recordsKept_loaded (by rw [hu]; exact hm) hl hk) hk

end Sys2Proof.Proofs
end

section
/-! SUPPORT. The loads on argument bytes that are their fields: what they read, which check fails first, and what
one that passes replaces. -/

namespace Sys2Proof.Machine

variable {s : State}

/-- R171: a load whose checks all pass takes effect. -/
theorem load_of_pass {checks : List (Nat × Bool)} {apply : State → State} (hm : s.mgmt.mode = .config)
    (h : firstFailing checks = none) :
    inConfig (checkedLoad checks apply) s = (apply s, doneWith 0 []) := by
  simp [inConfig, hm, checkedLoad, h]

/-- R171: a load is refused with the number of its first failing check. -/
theorem load_of_fail {checks : List (Nat × Bool)} {apply : State → State} {n : Nat}
    (hm : s.mgmt.mode = .config) (h : firstFailing checks = some n) :
    inConfig (checkedLoad checks apply) s = (s, refusedWith .badArgument n) := by
  simp [inConfig, hm, checkedLoad, h]

@[simp] theorem yes_toNat (b : Bool) : yes b.toNat = b := by cases b <;> rfl

@[simp] theorem yes_one : yes 1 = true := rfl

@[simp] theorem yes_zero : yes 0 = false := rfl

theorem isFlagByte_toNat (b : Bool) : isFlagByte b.toNat = true := by cases b <;> rfl

theorem toNat_le_one (b : Bool) : b.toNat ≤ 1 := by cases b <;> decide

/-! ## LOAD_CELL (R174) -/

/-- R198: a cell record's fields read back. -/
theorem splitFields_cell {c : CellRec} (h : CellFits c) :
    splitFields cellWidths (packed (cellFields c)) =
      some [c.period, c.tol, c.missedLimit, c.rejoinCount, c.delay.x0, c.delay.x1, c.computeOffset,
        c.demandHold, c.jamLimit, c.bootSkip.x0.toNat, c.bootSkip.x1.toNat, c.reportWidth,
        c.attention.toNat] := by
  obtain ⟨hp, ht, hml, hr, hd, ho, hh, hj, hw⟩ := h
  have hda : c.delay.x0 ≤ 500 := hd 0
  have hdb : c.delay.x1 ≤ 500 := hd 1
  have hba := toNat_le_one c.bootSkip.x0
  have hbb := toNat_le_one c.bootSkip.x1
  have hmask := c.attention.isLt
  refine splitFields_packed [(2, c.period), (1, c.tol), (1, c.missedLimit), (1, c.rejoinCount),
    (2, c.delay.x0), (2, c.delay.x1), (2, c.computeOffset), (1, c.demandHold), (1, c.jamLimit),
    (1, c.bootSkip.x0.toNat), (1, c.bootSkip.x1.toNat), (1, c.reportWidth), (3, c.attention.toNat)] ?_
  simp only [List.forall_mem_cons, List.not_mem_nil, false_implies, implies_true, and_true]
  omega

theorem cellChecks_pass {c : CellRec} (h : CellFits c) :
    firstFailing (cellChecks c.period c.tol c.missedLimit c.rejoinCount c.delay.x0 c.delay.x1
      c.computeOffset c.demandHold c.jamLimit c.bootSkip.x0.toNat c.bootSkip.x1.toNat c.reportWidth
      c.attention.toNat) = none := by
  obtain ⟨hp, ht, hml, hr, hd, ho, hh, hj, hw⟩ := h
  have hda : c.delay.x0 ≤ 500 := hd 0
  have hdb : c.delay.x1 ≤ 500 := hd 1
  have hmask : c.attention.toNat < 262144 := c.attention.isLt
  rw [firstFailing_none]
  simp [cellChecks, inRange, isFlagByte_toNat, or_assoc, *]

theorem cellOf_fields (c : CellRec) :
    cellOf c.period c.tol c.missedLimit c.rejoinCount c.delay.x0 c.delay.x1 c.computeOffset c.demandHold
      c.jamLimit c.bootSkip.x0.toNat c.bootSkip.x1.toNat c.reportWidth c.attention.toNat = c := by
  simp [cellOf]

theorem firstFailing_cellChecks {v : Nat → Nat} {n : Nat} (h : firstFails (cellCheck v) n) :
    firstFailing (cellChecks (v 1) (v 2) (v 3) (v 4) (v 5) (v 6) (v 7) (v 8) (v 9) (v 10) (v 11) (v 12)
      (v 13)) = some n := by
  refine firstFailing_of_firstFails (check := cellCheck v) ?sorted ?decides ?listed h
  case sorted => simp [cellChecks]
  case decides => simp [cellChecks, cellCheck, inRange, isFlagByte, or_assoc]
  case listed =>
    obtain ⟨hfails, -⟩ := h
    by_contra hn
    simp only [cellChecks, List.map_cons, List.map_nil, List.mem_cons, List.not_mem_nil, or_false,
      not_or] at hn
    exact hfails (by simp [cellCheck, hn])

theorem loadCell_of_split {args : List Byte} {p tol missed rejoin da db off hold jam ba bb width mask : Nat}
    (h : splitFields cellWidths args = some [p, tol, missed, rejoin, da, db, off, hold, jam, ba, bb, width, mask]) :
    loadCell args s = inConfig (checkedLoad
      (cellChecks p tol missed rejoin da db off hold jam ba bb width mask) fun s =>
        s.setStore { s.store with
          cell := cellOf p tol missed rejoin da db off hold jam ba bb width mask }) s := by
  simp only [loadCell, h]

/-! ## LOAD_STATION (R5) -/

theorem loadStation_of_split {args : List Byte} {n present circ radius dir share mass limit slew ospeed
    debounce step hold window counts torque speed : Nat}
    (h : splitFields stationWidths args = some [n, present, circ, radius, dir, share, mass, limit, slew,
      ospeed, debounce, step, hold, window, counts, torque, speed]) :
    loadStation args s = inConfig (checkedLoad
        ([(0, decide (n ≤ 3)), (1, isFlagByte present)] ++
          if yes present then
            stationFieldChecks circ radius dir share mass limit slew ospeed debounce step hold window
              counts torque speed
          else [])
        (if yes present then
          placeStation (Fin.ofNat 4 n)
            (stationOf circ radius dir share mass limit slew ospeed debounce step hold window counts
              torque speed)
        else removeStation (Fin.ofNat 4 n))) s := by
  simp only [loadStation, h]

/-- R198: a station record's fields read back, after the station's number. -/
theorem splitFields_station (i : Fin 4) {r : StationRec} (h : StationFits r) :
    splitFields stationWidths (packed ((1, (i.val : Int)) :: stationFields r)) =
      some [i.val, 1, r.circumference, r.radius, if r.direction = .plus then 0x01 else 0xFF, r.share,
        r.mechMass, r.torqueLimit, r.slew, r.overspeed, r.overspeedDebounce, r.maxStep, r.holdLimit,
        r.accelWindow, r.fallbackCounts, r.fallbackTorque, r.fallbackSpeed] := by
  have hdir : ((if r.direction = .plus then 0x01 else 0xFF : Int)) =
      ((if r.direction = .plus then 0x01 else 0xFF : Nat) : Int) := by split <;> rfl
  have hdir' : (if r.direction = .plus then 0x01 else 0xFF : Nat) < 256 := by split <;> decide
  obtain ⟨hpres, hc, hr, hsh, hm, ht, hs, ho, hd, hst, hh, hw, hfc, hft, hfs⟩ := h
  rw [stationFields, hdir, hpres]
  refine splitFields_packed [(1, i.val), (1, 1), (3, r.circumference), (3, r.radius),
    (1, if r.direction = .plus then 0x01 else 0xFF), (2, r.share), (2, r.mechMass), (3, r.torqueLimit),
    (3, r.slew), (4, r.overspeed), (1, r.overspeedDebounce), (4, r.maxStep), (1, r.holdLimit),
    (1, r.accelWindow), (3, r.fallbackCounts), (3, r.fallbackTorque), (2, r.fallbackSpeed)] ?_
  simp only [List.forall_mem_cons, List.not_mem_nil, false_implies, implies_true, and_true]
  omega

theorem stationChecks_pass (i : Fin 4) {r : StationRec} (h : StationFits r) :
    firstFailing ([(0, decide (i.val ≤ 3)), (1, isFlagByte 1)] ++
      stationFieldChecks r.circumference r.radius (if r.direction = .plus then 0x01 else 0xFF) r.share
        r.mechMass r.torqueLimit r.slew r.overspeed r.overspeedDebounce r.maxStep r.holdLimit r.accelWindow
        r.fallbackCounts r.fallbackTorque r.fallbackSpeed) = none := by
  have hi : i.val ≤ 3 := by omega
  have hdir : (if r.direction = .plus then 0x01 else 0xFF) = 1 ∨
      (if r.direction = .plus then 0x01 else 0xFF) = 255 := by split <;> simp
  obtain ⟨hpres, hc, hr, hsh, hm, ht, hs, ho, hd, hst, hh, hw, hfc, hft, hfs⟩ := h
  rw [firstFailing_none]
  simp [stationFieldChecks, inRange, isFlagByte, *]

theorem stationOf_fields {r : StationRec} (h : r.present = true) :
    stationOf r.circumference r.radius (if r.direction = .plus then 0x01 else 0xFF) r.share
      r.mechMass r.torqueLimit r.slew r.overspeed r.overspeedDebounce r.maxStep r.holdLimit r.accelWindow
      r.fallbackCounts r.fallbackTorque r.fallbackSpeed = r := by
  obtain ⟨present, circumference, radius, direction, _⟩ := r
  obtain rfl : present = true := h
  cases direction <;> rfl

theorem firstFailing_stationChecks {v : Nat → Nat} {n : Nat} (h : firstFails (stationCheck v) n) :
    firstFailing ([(0, decide (v 0 ≤ 3)), (1, isFlagByte (v 1))] ++
      if yes (v 1) then
        stationFieldChecks (v 2) (v 3) (v 4) (v 5) (v 6) (v 7) (v 8) (v 9) (v 10) (v 11) (v 12) (v 13) (v 14)
          (v 15) (v 16)
      else []) = some n := by
  by_cases hy : v 1 = 1
  · rw [if_pos (by simp [yes, hy])]
    refine firstFailing_of_firstFails (check := stationCheck v) ?sorted ?decides ?listed h
    case sorted => simp [stationFieldChecks]
    case decides => simp [stationFieldChecks, stationCheck, inRange, isFlagByte, hy]
    case listed =>
      obtain ⟨hfails, -⟩ := h
      by_contra hn
      simp only [stationFieldChecks, List.map_append, List.map_cons, List.map_nil, List.mem_append, List.mem_cons,
        List.not_mem_nil, or_false, not_or] at hn
      exact hfails (by simp [stationCheck, hn])
  · rw [if_neg (by simp [yes, hy])]
    refine firstFailing_of_firstFails (check := stationCheck v) ?sorted' ?decides' ?listed' h
    case sorted' => simp
    case decides' => simp [stationCheck, isFlagByte, hy]
    case listed' =>
      obtain ⟨hfails, -⟩ := h
      by_contra hn
      simp only [List.append_nil, List.map_cons, List.map_nil, List.mem_cons, List.not_mem_nil, or_false,
        not_or] at hn
      exact hfails (by simp [stationCheck, hn, hy])

/-- R5: with present "no" only the first two checks are made. -/
theorem loadStation_notPresent {v : Nat → Nat} {i : Fin 4} (hm : s.mgmt.mode = .config)
    (hsized : argumentsSized 0 stationWidths v) (h0 : v 0 = i.val) (h1 : v 1 = 0) :
    loadStation (arguments 0 stationWidths v) s = (removeStation i s, doneWith 0 []) := by
  have hsplit : splitFields stationWidths (arguments 0 stationWidths v) =
      some [v 0, v 1, v 2, v 3, v 4, v 5, v 6, v 7, v 8, v 9, v 10, v 11, v 12, v 13, v 14, v 15, v 16] :=
    splitFields_arguments hsized
  have hi : i.val ≤ 3 := by omega
  have hchecks : firstFailing ([(0, decide (i.val ≤ 3)), (1, isFlagByte 0)] ++ []) = none := by
    simp [firstFailing_none, isFlagByte, hi]
  rw [loadStation_of_split hsplit, h0, h1, yes_zero, if_neg Bool.false_ne_true, if_neg Bool.false_ne_true,
    load_of_pass hm hchecks, Fin.ofNat_val_eq_self]

/-! ## LOAD_GROUP (R41) -/

theorem loadGroup_of_split {args : List Byte} {n members kind leader kp ki clamp auth cycles confirm timeout
    capture slip break_ debounce recover count drift accel window : Nat}
    (h : splitFields groupWidths args = some [n, members, kind, leader, kp, ki, clamp, auth, cycles, confirm,
      timeout, capture, slip, break_, debounce, recover, count, drift, accel, window]) :
    loadGroup args s = inConfig (checkedLoad
        (groupChecks (s.store.groups.get (otherGroup (Fin.ofNat 2 n))).members n members kind leader
          kp ki clamp auth cycles confirm timeout capture slip break_ debounce recover count drift
          accel window)
        (placeGroup (Fin.ofNat 2 n)
          (groupRecOf members kind leader kp ki clamp auth cycles confirm timeout capture slip break_
            debounce recover count drift accel window))) s := by
  simp only [loadGroup, h]

/-- R198: a group record's fields read back, after the group's number. -/
theorem splitFields_group (g : Fin 2) {r : GroupRec} (h : GroupFits r) :
    splitFields groupWidths (packed ((1, (g.val : Int)) :: groupFields r)) =
      some [g.val, r.members.toNat, if r.kind = .mean then 0 else 1, r.leader.val, r.kp, r.ki,
        r.integratorClamp, r.authority, r.captureCycles, r.captureConfirm, r.captureTimeout, r.captureBand,
        r.slipBand, r.breakBand, r.slipDebounce, r.recoverCount, r.breakCount, r.driftLimit, r.accelLimit,
        r.accelWindow] := by
  have hkind : ((if r.kind = .mean then 0 else 1 : Int)) =
      ((if r.kind = .mean then 0 else 1 : Nat) : Int) := by split <;> rfl
  have hkind' : (if r.kind = .mean then 0 else 1 : Nat) < 256 := by split <;> decide
  have hmembers := r.members.isLt
  obtain ⟨hkp, hki, hcl, hau, hcy, hco, hti, hba, hde, hre, hbr, hdr, hac, hwi⟩ := h
  rw [groupFields, hkind]
  refine splitFields_packed [(1, g.val), (1, r.members.toNat), (1, if r.kind = .mean then 0 else 1),
    (1, r.leader.val), (2, r.kp), (2, r.ki), (3, r.integratorClamp), (2, r.authority), (1, r.captureCycles),
    (1, r.captureConfirm), (2, r.captureTimeout), (3, r.captureBand), (3, r.slipBand), (3, r.breakBand),
    (1, r.slipDebounce), (1, r.recoverCount), (2, r.breakCount), (3, r.driftLimit), (2, r.accelLimit),
    (1, r.accelWindow)] ?_
  simp only [List.forall_mem_cons, List.not_mem_nil, false_implies, implies_true, and_true]
  omega

/-- R41: two member masks share no station. -/
theorem members_and_eq_zero_iff {a b : BitVec 4} :
    a &&& b = 0 ↔ ∀ i < 4, a.getLsbD i = true → b.getLsbD i = false := by
  constructor
  · intro h i _ ha
    have hbit : (a &&& b).getLsbD i = false := by rw [h, BitVec.ofNat_eq_ofNat, BitVec.getLsbD_zero]
    rwa [BitVec.getLsbD_and, ha, Bool.true_and] at hbit
  · intro h
    refine BitVec.eq_of_getLsbD_eq fun i hi => ?_
    cases ha : a.getLsbD i with
    | true => simp [BitVec.getLsbD_and, ha, h i hi ha]
    | false => simp [BitVec.getLsbD_and, ha]

theorem groupChecks_pass (g : Fin 2) {r : GroupRec} {other : BitVec 4} (h : GroupFits r)
    (ho : r.members &&& other = 0) :
    firstFailing (groupChecks other g.val r.members.toNat (if r.kind = .mean then 0 else 1) r.leader.val r.kp
      r.ki r.integratorClamp r.authority r.captureCycles r.captureConfirm r.captureTimeout r.captureBand
      r.slipBand r.breakBand r.slipDebounce r.recoverCount r.breakCount r.driftLimit r.accelLimit
      r.accelWindow) = none := by
  have hg : g.val ≤ 1 := by omega
  have hl : r.leader.val ≤ 3 := by omega
  have hm : r.members.toNat < 16 := r.members.isLt
  have hkind : (if r.kind = .mean then 0 else 1) ≤ 1 := by split <;> decide
  obtain ⟨hkp, hki, hcl, hau, hcy, hco, hti, ⟨hb1, hb2, hb3⟩, hde, hre, hbr, ⟨hd1, hd2⟩, hac, hwi⟩ := h
  have hcap : r.captureBand ≤ 10000000 := by omega
  have hslip : r.slipBand ≤ 10000000 := by omega
  have hdrift : r.driftLimit ≤ 1000000 := by omega
  rw [firstFailing_none]
  simp [groupChecks, inRange, *]

theorem groupRecOf_fields (r : GroupRec) :
    groupRecOf r.members.toNat (if r.kind = .mean then 0 else 1) r.leader.val r.kp r.ki r.integratorClamp
      r.authority r.captureCycles r.captureConfirm r.captureTimeout r.captureBand r.slipBand r.breakBand
      r.slipDebounce r.recoverCount r.breakCount r.driftLimit r.accelLimit r.accelWindow = r := by
  obtain ⟨members, kind, leader, _⟩ := r
  cases kind <;> simp [groupRecOf]

/-- `v` holds the fields of a LOAD_GROUP, whose widths bound kp and ki. -/
theorem firstFailing_groupChecks {v : Nat → Nat} {n : Nat} {other : BitVec 4} (hkp : v 4 ≤ 65535)
    (hki : v 5 ≤ 65535) (h : firstFails (groupCheck other v) n) :
    firstFailing (groupChecks other (v 0) (v 1) (v 2) (v 3) (v 4) (v 5) (v 6) (v 7) (v 8) (v 9) (v 10) (v 11)
      (v 12) (v 13) (v 14) (v 15) (v 16) (v 17) (v 18) (v 19)) = some n := by
  have hmembers : v 1 < 16 ∧ BitVec.ofNat 4 (v 1) &&& other = 0 ↔ groupCheck other v 1 := by
    refine and_congr_right fun hlt => members_and_eq_zero_iff.trans ?_
    refine forall₂_congr fun i hi => ?_
    rw [BitVec.getLsbD_ofNat, decide_eq_true hi, Bool.true_and]
  refine firstFailing_of_firstFails (check := groupCheck other v) ?sorted ?decides ?listed h
  case sorted => simp [groupChecks]
  case decides =>
    rw [groupChecks, List.forall_mem_cons, List.forall_mem_cons]
    refine ⟨by simp [groupCheck], by simpa only [Bool.and_eq_true, decide_eq_true_eq] using hmembers, ?_⟩
    simp [groupCheck, inRange, hkp, hki, and_assoc]
  case listed =>
    obtain ⟨hfails, -⟩ := h
    by_contra hn
    simp only [groupChecks, List.map_cons, List.map_nil, List.mem_cons, List.not_mem_nil, or_false,
      not_or] at hn
    exact hfails (by simp [groupCheck, hn])

theorem otherGroup_eq {g other : Fin 2} (h : other ≠ g) : otherGroup g = other := by
  match g, other with
  | 0, 0 => exact absurd rfl h
  | 0, 1 => rfl
  | 1, 0 => rfl
  | 1, 1 => exact absurd rfl h

theorem loadGroup_of_fails {v : Nat → Nat} {other : Fin 2} {n : Nat} (hm : s.mgmt.mode = .config)
    (hsized : argumentsSized 0 groupWidths v) (hne : other.val ≠ v 0)
    (h : firstFails (groupCheck (s.store.groups.get other).members v) n) :
    loadGroup (arguments 0 groupWidths v) s = (s, refusedWith .badArgument n) := by
  have hkp : v 4 ≤ 65535 := Nat.le_of_lt_succ (hsized 4 2 rfl)
  have hki : v 5 ≤ 65535 := Nat.le_of_lt_succ (hsized 5 2 rfl)
  refine (loadGroup_of_split (splitFields_arguments (widths := groupWidths) hsized)).trans
    (load_of_fail hm ?_)
  by_cases h0 : v 0 ≤ 1
  · have hother : otherGroup (Fin.ofNat 2 (v 0)) = other := by
      refine otherGroup_eq fun he => hne ?_
      rw [he, Fin.val_ofNat, Nat.mod_eq_of_lt (Nat.lt_succ_of_le h0)]
    exact firstFailing_groupChecks hkp hki (hother ▸ h)
  · obtain rfl : n = 0 := by
      by_contra hn
      exact h0 (h.2 0 (Nat.pos_of_ne_zero hn))
    simp [groupChecks, firstFailing, h0]

/-! ## LOAD_ROADLOAD (R31) -/

/-- R31: what a row must hold beside the one before it. -/
def RowGood (q r : RoadRow) : Prop :=
  (1 ≤ r.speed ∧ r.speed ≤ 90000) ∧ r.force ≤ 30000 ∧ q.speed < r.speed

/-- The row at a position is good beside the one before it, the first beside `p`. -/
def RowPasses (p : RoadRow) (rows : List RoadRow) (j : Nat) : Prop :=
  ∀ q r, (p :: rows)[j]? = some q → rows[j]? = some r → RowGood q r

theorem rowPasses_zero {p r : RoadRow} {rest : List RoadRow} : RowPasses p (r :: rest) 0 ↔ RowGood p r := by
  simp [RowPasses]

theorem rowPasses_succ {p r : RoadRow} {rest : List RoadRow} {j : Nat} :
    RowPasses p (r :: rest) (j + 1) ↔ RowPasses r rest j := by
  simp [RowPasses]

theorem firstBadRow_cons (n : Nat) (p r : RoadRow) (rest : List RoadRow) [Decidable (RowGood p r)] :
    firstBadRow n p.speed (r :: rest) = if RowGood p r then firstBadRow (n + 1) r.speed rest else some n := by
  simp only [firstBadRow, inRange, Nat.zero_le, decide_true, Bool.true_and, Bool.and_eq_true, decide_eq_true_eq,
    and_assoc, RowGood]

theorem firstBadRow_eq_none {p : RoadRow} {rows : List RoadRow} {n : Nat} (h : ∀ j, RowPasses p rows j) :
    firstBadRow n p.speed rows = none := by
  classical
  induction rows generalizing p n with
  | nil => rfl
  | cons r rest ih =>
    rw [firstBadRow_cons, if_pos (rowPasses_zero.1 (h 0))]
    exact ih fun j => rowPasses_succ.1 (h (j + 1))

theorem firstBadRow_eq_some {p : RoadRow} {rows : List RoadRow} {n j : Nat} (hbad : ¬ RowPasses p rows j)
    (hgood : ∀ m < j, RowPasses p rows m) : firstBadRow n p.speed rows = some (n + j) := by
  classical
  induction rows generalizing p n j with
  | nil => exact absurd (fun q r _ hr => by simp at hr) hbad
  | cons r rest ih =>
    cases j with
    | zero => rw [firstBadRow_cons, if_neg (mt rowPasses_zero.2 hbad), Nat.add_zero]
    | succ j =>
      rw [firstBadRow_cons, if_pos (rowPasses_zero.1 (hgood 0 (Nat.succ_pos j))),
        ih (mt rowPasses_succ.2 hbad) fun m hm => rowPasses_succ.1 (hgood (m + 1) (Nat.succ_lt_succ hm)),
        Nat.add_right_comm, Nat.add_assoc]

/-- R31: the check of a row by its number, counted from 1, the row before the first at speed 0. -/
theorem roadCheck_row {t : RoadTable} {j : Nat} (hj : j < 24) :
    roadCheck t (j + 1) ↔ RowPasses ⟨0, 0⟩ t.rows j := by
  cases j with
  | zero =>
    constructor
    · rintro ⟨-, hrow, -⟩ q r hq hr
      obtain rfl : ⟨0, 0⟩ = q := Option.some.inj hq
      obtain ⟨hlo, hhi, hforce, -⟩ := hrow r (Nat.le_refl 1) (by decide) hr
      exact ⟨⟨hlo, hhi⟩, hforce, hlo⟩
    · refine fun h => ⟨by omega, fun r _ _ hr => ?_, by omega⟩
      obtain ⟨⟨hlo, hhi⟩, hforce, -⟩ := h _ r rfl hr
      exact ⟨hlo, hhi, hforce, fun q h2 => by omega⟩
  | succ j =>
    constructor
    · rintro ⟨-, hrow, -⟩ q r hq hr
      obtain ⟨hlo, hhi, hforce, hasc⟩ := hrow r (by omega) hj hr
      exact ⟨⟨hlo, hhi⟩, hforce, hasc q (by omega) hq⟩
    · refine fun h => ⟨by omega, fun r _ _ hr => ?_, by omega⟩
      obtain ⟨q, hq⟩ : ∃ q, t.rows[j]? = some q :=
        ⟨_, List.getElem?_eq_getElem (by have := (List.getElem?_eq_some_iff.1 hr).1; omega)⟩
      obtain ⟨⟨hlo, hhi⟩, hforce, hasc⟩ := h q r hq hr
      refine ⟨hlo, hhi, hforce, fun q' _ hq' => ?_⟩
      rwa [Option.some.inj (hq'.symm.trans hq)]

theorem firstFailing_roadChecks {t : RoadTable} {n : Nat} (h : firstFails (roadCheck t) n) :
    firstFailing (roadChecks t.rows.length t.rows t.band) = some n := by
  obtain ⟨hfails, hearlier⟩ := h
  have hfirst : n ≠ 0 → inRange 2 24 t.rows.length = true := fun hn => by
    simpa [inRange] using (hearlier 0 (Nat.pos_of_ne_zero hn)).1 rfl
  have hrange : n ≤ 25 := by
    by_contra hn
    exact hfails ⟨by omega, fun _ _ _ => by omega, by omega⟩
  match n with
  | 0 =>
    have hcount : inRange 2 24 t.rows.length = false := by
      refine Bool.eq_false_iff.2 fun hc => hfails ⟨fun _ => ?_, by omega, by omega⟩
      simpa [inRange] using hc
    simp [roadChecks, firstFailing, hcount]
  | j + 1 =>
    have hcount := hfirst (Nat.succ_ne_zero j)
    by_cases hj : j < 24
    · have hrow : firstBadRow 1 0 t.rows = some (1 + j) :=
        firstBadRow_eq_some (p := ⟨0, 0⟩) (mt (roadCheck_row hj).2 hfails) fun m hm =>
          (roadCheck_row (Nat.lt_trans hm hj)).1 (hearlier _ (Nat.succ_lt_succ hm))
      simp [roadChecks, firstFailing, hcount, hrow, Nat.add_comm]
    · obtain rfl : j = 24 := by omega
      have hlen : t.rows.length ≤ 24 := (by simpa [inRange] using hcount : _ ∧ _).2
      have hrow : firstBadRow 1 0 t.rows = none := firstBadRow_eq_none (p := ⟨0, 0⟩) fun m => by
        by_cases hm : m < 24
        · exact (roadCheck_row hm).1 (hearlier _ (Nat.succ_lt_succ hm))
        · intro q r _ hr
          rw [List.getElem?_eq_none (by omega)] at hr
          cases hr
      have hband : inRange 0 2000000 t.band = false := by
        refine Bool.eq_false_iff.2 fun hb => hfails ⟨by omega, by omega, fun _ => ?_⟩
        simpa [inRange] using hb
      simp [roadChecks, firstFailing, hcount, hrow, hband]

theorem roadChecks_pass {t : RoadTable} (h : RoadFits t) :
    firstFailing (roadChecks t.rows.length t.rows t.band) = none := by
  obtain ⟨hcount, hrow, hasc, hband⟩ := h
  have hgood : firstBadRow 1 0 t.rows = none := by
    refine firstBadRow_eq_none (p := ⟨0, 0⟩) fun j q r hq hr => ?_
    obtain ⟨hlo, hhi, hforce⟩ := hrow r (List.mem_of_getElem? hr)
    have hpair : (⟨0, 0⟩ :: t.rows).Pairwise fun a b => a.speed < b.speed :=
      List.pairwise_cons.2 ⟨fun r hr => (hrow r hr).1, hasc⟩
    obtain ⟨hjq, rfl⟩ := List.getElem?_eq_some_iff.1 hq
    obtain ⟨hjr, rfl⟩ := List.getElem?_eq_some_iff.1 hr
    exact ⟨⟨hlo, hhi⟩, hforce, List.pairwise_iff_getElem.1 hpair j (j + 1) hjq (by simpa using hjr)
      (Nat.lt_succ_self j)⟩
  simp [roadChecks, firstFailing, inRange, hcount, hgood, hband]

/-- R198: five bytes a row. -/
theorem packed_rows_length (rows : List RoadRow) : (packed (rows.flatMap rowFields)).length = 5 * rows.length := by
  induction rows with
  | nil => rfl
  | cons r rest ih =>
    rw [packed_length] at ih
    simp [rowFields, ih]
    omega

theorem beBytes_one (n : Nat) : beBytes 1 n = [BitVec.ofNat 8 n] := by simp [beBytes]

theorem roadRows_succ (n : Nat) (bytes : List Byte) :
    roadRows (n + 1) bytes =
      { speed := beNat (bytes.take 3), force := beNat ((bytes.drop 3).take 2) } :: roadRows n (bytes.drop 5) := by
  simp [roadRows, List.range_succ_eq_map, Function.comp_def, List.drop_drop, Nat.mul_add, Nat.add_comm,
    Nat.add_left_comm]

theorem roadRows_packed {rows : List RoadRow} (h : ∀ r ∈ rows, r.speed < 2 ^ 24 ∧ r.force < 2 ^ 16)
    (rest : List Byte) : roadRows rows.length (packed (rows.flatMap rowFields) ++ rest) = rows := by
  induction rows with
  | nil => rfl
  | cons r rows ih =>
    obtain ⟨⟨hspeed, hforce⟩, hrows⟩ := List.forall_mem_cons.1 h
    have hbytes : packed ((r :: rows).flatMap rowFields) ++ rest =
        beBytes 3 r.speed ++ (beBytes 2 r.force ++ (packed (rows.flatMap rowFields) ++ rest)) := by
      rw [List.flatMap_cons, rowFields, packed_append, packed_cons, packed_nat, packed_nat, List.append_assoc,
        List.append_assoc]
    have hlater : packed (rows.flatMap rowFields) ++ rest =
        (packed ((r :: rows).flatMap rowFields) ++ rest).drop 5 := by
      rw [hbytes, ← List.append_assoc, List.drop_left' (by simp)]
    rw [List.length_cons, roadRows_succ, ← hlater, ih hrows, hbytes, List.take_left' (by simp),
      List.drop_left' (by simp), List.take_left' (by simp), beNat_beBytes, beNat_beBytes,
      Nat.mod_eq_of_lt (b := 256 ^ 3) hspeed, Nat.mod_eq_of_lt (b := 256 ^ 2) hforce]

/-- R31: a table's rows and band read back. -/
theorem loadRoadload_packed {t : RoadTable} (hlen : t.rows.length < 256)
    (hrows : ∀ r ∈ t.rows, r.speed < 2 ^ 24 ∧ r.force < 2 ^ 16) (hband : t.band < 2 ^ 24) :
    loadRoadload (packed ((1, (t.rows.length : Int)) :: t.rows.flatMap rowFields ++ [(3, (t.band : Int))])) s =
      inConfig (checkedLoad (roadChecks t.rows.length t.rows t.band) fun s =>
        s.setStore { s.store with road := t }) s := by
  have hargs : packed ((1, (t.rows.length : Int)) :: t.rows.flatMap rowFields ++ [(3, (t.band : Int))]) =
      BitVec.ofNat 8 t.rows.length :: (packed (t.rows.flatMap rowFields) ++ beBytes 3 t.band) := by
    rw [packed_append, packed_cons, packed_nat, packed_nat, List.append_assoc, beBytes_one]
    rfl
  have hdrop : (packed (t.rows.flatMap rowFields) ++ beBytes 3 t.band).drop (5 * t.rows.length) =
      beBytes 3 t.band := List.drop_left' (packed_rows_length t.rows)
  rw [hargs, loadRoadload]
  simp only [BitVec.toNat_ofNat, Nat.mod_eq_of_lt hlen]
  rw [if_neg (by simp [packed_rows_length, -packed_length]), roadRows_packed hrows, hdrop, beNat_beBytes,
    Nat.mod_eq_of_lt (b := 256 ^ 3) hband]


/-! ## LOAD_SLOT (R129) -/

theorem loadSlot_of_split {args : List Byte} {g n enabled station address earliest close : Nat}
    (h : splitFields slotWidths args = some [g, n, enabled, station, address, earliest, close]) :
    loadSlot args s = inConfig (fun s =>
      if 1 < g then (s, refusedWith .badArgument 0)
      else if !segmentAtRest s (if g = 0 then .a else .b) then (s, refusedWith .wrongState 19)
      else
        checkedLoad (slotChecks s.store (if g = 0 then .a else .b) n enabled station address earliest close)
          (placeSlot (if g = 0 then .a else .b) (Fin.ofNat 4 (n - 1))
            (slotOf enabled station address earliest close)) s) s := by
  simp only [loadSlot, h]

theorem splitFields_slotArguments {v : Nat → Nat} (h : argumentsSized 0 slotWidths v) :
    splitFields slotWidths (arguments 0 slotWidths v) = some [v 0, v 1, v 2, v 3, v 4, v 5, v 6] :=
  splitFields_arguments h

theorem segOf_num (g : Seg) : (if g.num.val = 0 then Seg.a else Seg.b) = g := by cases g <;> rfl

theorem segmentAtRest_iff {g : Seg} :
    segmentAtRest s g = true ↔ (s.seg g).state = .down ∨ (s.seg g).state = .jammed := by
  simp [segmentAtRest]

/-- R129: a segment number above 1 is refused. -/
theorem loadSlot_of_noSegment {args : List Byte} {g n enabled station address earliest close : Nat}
    (hm : s.mgmt.mode = .config)
    (h : splitFields slotWidths args = some [g, n, enabled, station, address, earliest, close]) (hg : 1 < g) :
    loadSlot args s = (s, refusedWith .badArgument 0) := by
  rw [loadSlot_of_split h, inConfig, if_neg (by simp [hm]), if_pos hg]

/-- R129: a segment in BOOT or UP refuses the load. -/
theorem loadSlot_of_running {args : List Byte} {g : Seg} {n enabled station address earliest close : Nat}
    (hm : s.mgmt.mode = .config)
    (h : splitFields slotWidths args = some [g.num.val, n, enabled, station, address, earliest, close])
    (hg : (s.seg g).state = .boot ∨ (s.seg g).state = .up) :
    loadSlot args s = (s, refusedWith .wrongState 19) := by
  have hrest : segmentAtRest s g = false := by
    refine Bool.eq_false_iff.2 fun hr => ?_
    rcases segmentAtRest_iff.1 hr with hr | hr <;> simp [hr] at hg
  rw [loadSlot_of_split h, inConfig, if_neg (by simp [hm]), if_neg (by omega), segOf_num, hrest]
  rfl

/-- R129: the segment at rest, the checks of the fields decide. -/
theorem loadSlot_of_rest {args : List Byte} {g : Seg} {n enabled station address earliest close : Nat}
    (hm : s.mgmt.mode = .config)
    (h : splitFields slotWidths args = some [g.num.val, n, enabled, station, address, earliest, close])
    (hg : (s.seg g).state = .down ∨ (s.seg g).state = .jammed) :
    loadSlot args s = checkedLoad (slotChecks s.store g n enabled station address earliest close)
      (placeSlot g (Fin.ofNat 4 (n - 1)) (slotOf enabled station address earliest close)) s := by
  rw [loadSlot_of_split h, inConfig, if_neg (by simp [hm]), if_neg (by omega), segOf_num,
    segmentAtRest_iff.2 hg]
  rfl

/-- R198: a slot record's fields read back, after the segment and the slot's number. -/
theorem splitFields_slot (g : Seg) (k : Fin 4) {r : SlotRec} (h : SlotFits r) :
    splitFields slotWidths (packed ([(1, (g.num.val : Int)), (1, (k.val : Int) + 1)] ++ slotFields r)) =
      some [g.num.val, k.val + 1, 1, r.station.val, r.address, r.earliest, r.close] := by
  obtain ⟨henabled, haddress, hwindow⟩ := h
  rw [slotFields, henabled]
  refine splitFields_packed [(1, g.num.val), (1, k.val + 1), (1, 1), (1, r.station.val), (1, r.address),
    (2, r.earliest), (2, r.close)] ?_
  simp only [List.forall_mem_cons, List.not_mem_nil, false_implies, implies_true, and_true]
  omega

theorem slotChecks_pass {store : Store} {g : Seg} {k : Fin 4} {r : SlotRec} (h : SlotFits r)
    (hfree : ∀ g' k', slotNames store (g', k') r.station → g' = g ∧ k' = k) :
    firstFailing (slotChecks store g (k.val + 1) 1 r.station.val r.address r.earliest r.close) = none := by
  obtain ⟨henabled, haddress, hlt, hearliest, hclose⟩ := h
  have hk : k.val + 1 ≤ 4 := by omega
  have hst : r.station.val ≤ 3 := by omega
  have hpos : 1 ≤ r.close := by omega
  have hnone : stationFree store g k r.station = true :=
    stationFree_iff.2 fun g' k' he hi => hfree g' k' ⟨he, hi⟩
  rw [firstFailing_none]
  simp [slotChecks, isFlagByte, inRange, *]

theorem slotOf_fields {r : SlotRec} (h : r.enabled = true) :
    slotOf 1 r.station.val r.address r.earliest r.close = r := by
  obtain ⟨enabled, station, address, earliest, close⟩ := r
  obtain rfl : enabled = true := h
  simp [slotOf]

/-- R129: only the slot's number is checked for a record that is not enabled. -/
theorem slotChecks_pass_of_disabled {store : Store} {g : Seg} {k : Fin 4} {station address earliest close : Nat} :
    firstFailing (slotChecks store g (k.val + 1) 0 station address earliest close) = none := by
  have hk : k.val + 1 ≤ 4 := by omega
  rw [firstFailing_none]
  simp [slotChecks, isFlagByte, inRange, hk]

/-- R129, check 7, by the numbers of the fields. -/
theorem stationFree_ofNat {store : Store} {g : Seg} {n station : Nat} (hn : 1 ≤ n ∧ n ≤ 4) (hst : station ≤ 3) :
    stationFree store g (Fin.ofNat 4 (n - 1)) (Fin.ofNat 4 station) = true ↔
      ∀ (g' : Seg) (k : Fin 4), ((store.slots.get g'.num).get k).enabled = true →
        ((store.slots.get g'.num).get k).station.val = station → g' = g ∧ k.val + 1 = n := by
  have hk (k : Fin 4) : k = Fin.ofNat 4 (n - 1) ↔ k.val + 1 = n := by
    rw [Fin.ext_iff, Fin.val_ofNat, Nat.mod_eq_of_lt (by omega)]
    omega
  have hi (i : Fin 4) : i = Fin.ofNat 4 station ↔ i.val = station := by
    rw [Fin.ext_iff, Fin.val_ofNat, Nat.mod_eq_of_lt (by omega)]
  simp only [stationFree_iff, hk, hi]

theorem firstFailing_slotChecks {store : Store} {g : Seg} {v : Nat → Nat} {m : Nat}
    (h : firstFails (fun j => (slotCheck store g v j).2) m) :
    firstFailing (slotChecks store g (v 1) (v 2) (v 3) (v 4) (v 5) (v 6)) = some (slotCheck store g v m).1 := by
  obtain ⟨hfails, hearlier⟩ := h
  have hnumber (hm : 0 < m) : 1 ≤ v 1 ∧ v 1 ≤ 4 := hearlier 0 hm
  have henabled (hm : 1 < m) : v 2 = 1 := by
    by_contra hne
    refine hfails ?_
    match m, hm with
    | 2, _ | 3, _ | 4, _ | 5, _ | 6, _ => exact fun he => absurd he hne
    | _ + 7, _ => trivial
  have hstation (hm : 2 < m) : v 3 ≤ 3 := hearlier 2 hm (henabled (by omega))
  have haddress (hm : 3 < m) : v 4 ≤ 15 := hearlier 3 hm (henabled (by omega))
  have hearliest (hm : 4 < m) : v 5 ≤ 1999 := hearlier 4 hm (henabled (by omega))
  have hwindow (hm : 5 < m) : 1 ≤ v 6 ∧ v 6 ≤ 2000 ∧ v 5 < v 6 := hearlier 5 hm (henabled (by omega))
  match m with
  | 0 =>
    have hf : ¬ (1 ≤ v 1 ∧ v 1 ≤ 4) := hfails
    simp [slotChecks, firstFailing, inRange, hf, slotCheck]
  | 1 =>
    have hf : ¬ v 2 ≤ 1 := hfails
    simp [slotChecks, firstFailing, inRange, isFlagByte, hf, slotCheck, hnumber]
  | 2 =>
    have hf : ¬ v 3 ≤ 3 := fun hle => hfails fun _ => hle
    simp [slotChecks, firstFailing, inRange, isFlagByte, hf, slotCheck, hnumber, henabled]
  | 3 =>
    have hf : ¬ v 4 ≤ 15 := fun hle => hfails fun _ => hle
    simp [slotChecks, firstFailing, inRange, isFlagByte, hf, slotCheck, hnumber, henabled, hstation]
  | 4 =>
    have hf : ¬ v 5 ≤ 1999 := fun hle => hfails fun _ => hle
    simp [slotChecks, firstFailing, inRange, isFlagByte, hf, slotCheck, hnumber, henabled, hstation, haddress]
  | 5 =>
    have hf : ¬ (1 ≤ v 6 ∧ v 6 ≤ 2000 ∧ v 5 < v 6) := fun hle => hfails fun _ => hle
    by_cases hclose : 1 ≤ v 6 ∧ v 6 ≤ 2000
    · have hlt : ¬ v 5 < v 6 := fun hlt => hf ⟨hclose.1, hclose.2, hlt⟩
      simp [slotChecks, firstFailing, inRange, isFlagByte, hlt, hclose, slotCheck, hnumber, henabled, hstation,
        haddress, hearliest]
    · simp [slotChecks, firstFailing, inRange, isFlagByte, hclose, slotCheck, hnumber, henabled, hstation,
        haddress, hearliest]
  | 6 =>
    have hf : stationFree store g (Fin.ofNat 4 (v 1 - 1)) (Fin.ofNat 4 (v 3)) = false :=
      Bool.eq_false_iff.2 fun hfree => hfails fun _ =>
        (stationFree_ofNat (hnumber (by decide)) (hstation (by decide))).1 hfree
    simp [-Fin.ofNat_eq_cast, slotChecks, firstFailing, inRange, isFlagByte, hf, slotCheck, hnumber, henabled, hstation,
      haddress, hearliest, hwindow]
  | _ + 7 => exact absurd trivial hfails

/-! ## LOAD_SCHEDULE (R186) -/

theorem loadSchedule_of_split {args : List Byte} {n enabled kind operand position repetition offset : Nat}
    (h : splitFields scheduleWidths args = some [n, enabled, kind, operand, position, repetition, offset]) :
    loadSchedule args s =
      checkedLoad (scheduleChecks n enabled kind operand position repetition offset) (fun s =>
        s.setStore { s.store with
          schedule := s.store.schedule.set n
            (schedEntryOf enabled kind operand position repetition offset) }) s := by
  simp only [loadSchedule, h]

@[simp] theorem itemKindOf_codeIn (kind : ItemKind) : itemKindOf (codeIn itemOrder kind) = some kind := by
  cases kind <;> rfl

theorem codeIn_itemOrder_lt (kind : ItemKind) : codeIn itemOrder kind < 7 := by cases kind <;> decide

theorem operandFits_iff {kind : ItemKind} {n : Nat} : operandFits kind n = true ↔ itemOperandFits kind n := by
  cases kind <;> simp [operandFits, itemOperandFits]

theorem itemOperandFits_le {kind : ItemKind} {n : Nat} (h : itemOperandFits kind n) : n ≤ 255 := by
  cases kind <;> simp only [itemOperandFits] at h <;> omega

theorem splitFields_scheduleArguments {v : Nat → Nat} (h : argumentsSized 0 scheduleWidths v) :
    splitFields scheduleWidths (arguments 0 scheduleWidths v) = some [v 0, v 1, v 2, v 3, v 4, v 5, v 6] :=
  splitFields_arguments h

theorem itemKindOf_isSome {n : Nat} : (itemKindOf n).isSome = true ↔ n ≤ 6 := by
  match n with
  | 0 | 1 | 2 | 3 | 4 | 5 | 6 => simp [itemKindOf]
  | n + 7 => simp [itemKindOf]

/-- R186: the operand's range, by the code of the item's kind; an operand is a byte. -/
theorem operandFits_kindOf {kind n : Nat} (hn : n ≤ 255) :
    operandFits ((itemKindOf kind).getD .null) n = true ↔
      (kind = 1 ∨ kind = 2 → n ≤ 3) ∧ (kind = 3 → n ≤ 1) ∧ (kind = 4 → n ≤ 7) := by
  match kind with
  | 0 | 1 | 2 | 3 | 4 | 5 | 6 => simp [itemKindOf, operandFits, hn]
  | k + 7 => simp [itemKindOf, operandFits, hn]

/-- R198: an entry's fields read back, after its number. -/
theorem splitFields_entry {n : Nat} (hn : n ≤ 15) {e : SchedEntry} (h : EntryFits e) :
    splitFields scheduleWidths (packed ((1, (n : Int)) :: entryFields e)) =
      some [n, 1, codeIn itemOrder e.kind, e.operand, e.position, e.repetition, e.offset] := by
  obtain ⟨henabled, hoperand, hposition, hrepetition, hoffset⟩ := h
  have hoperand' := itemOperandFits_le hoperand
  have hkind := codeIn_itemOrder_lt e.kind
  have hrep : e.repetition ≤ 64 := by
    simp only [List.mem_cons, List.not_mem_nil, or_false] at hrepetition
    omega
  rw [entryFields, henabled]
  refine splitFields_packed [(1, n), (1, 1), (1, codeIn itemOrder e.kind), (1, e.operand), (1, e.position),
    (1, e.repetition), (1, e.offset)] ?_
  simp only [List.forall_mem_cons, List.not_mem_nil, false_implies, implies_true, and_true]
  omega

theorem scheduleChecks_pass {n : Nat} (hn : n ≤ 15) {e : SchedEntry} (h : EntryFits e) :
    firstFailing (scheduleChecks n 1 (codeIn itemOrder e.kind) e.operand e.position e.repetition e.offset) =
      none := by
  obtain ⟨henabled, hoperand, hposition, hrepetition, hoffset⟩ := h
  have hrep : decide (e.repetition ∈ [1, 2, 4, 8, 16, 32, 64]) = true := decide_eq_true hrepetition
  rw [firstFailing_none]
  simp only [scheduleChecks, yes_one, if_true, hrep]
  simp [isFlagByte, hn, operandFits_iff, hoperand, hposition, hoffset]

theorem schedEntryOf_fields {e : SchedEntry} (h : e.enabled = true) :
    schedEntryOf 1 (codeIn itemOrder e.kind) e.operand e.position e.repetition e.offset = e := by
  obtain ⟨enabled, kind, operand, position, repetition, offset⟩ := e
  obtain rfl : enabled = true := h
  simp [schedEntryOf]

theorem scheduleChecks_pass_of_disabled {n : Nat} (hn : n ≤ 15) (kind operand position repetition offset : Nat) :
    firstFailing (scheduleChecks n 0 kind operand position repetition offset) = none := by
  rw [firstFailing_none]
  simp [scheduleChecks, isFlagByte, hn]

/-- `v` holds the fields of a LOAD_SCHEDULE, whose widths bound the operand. -/
theorem firstFailing_scheduleChecks {v : Nat → Nat} {n : Nat} (hoperand : v 3 ≤ 255)
    (h : firstFails (entryCheck v) n) :
    firstFailing (scheduleChecks (v 0) (v 1) (v 2) (v 3) (v 4) (v 5) (v 6)) = some n := by
  by_cases hy : v 1 = 1
  · refine firstFailing_of_firstFails (check := entryCheck v) ?sorted ?decides ?listed h
    case sorted => simp [scheduleChecks, yes, hy]
    case decides =>
      simp [scheduleChecks, yes, entryCheck, isFlagByte, hy, itemKindOf_isSome, operandFits_kindOf hoperand]
    case listed =>
      obtain ⟨hfails, -⟩ := h
      by_contra hn
      simp only [scheduleChecks, yes, hy, decide_true, if_true, List.map_append, List.map_cons, List.map_nil,
        List.mem_append, List.mem_cons, List.not_mem_nil, or_false, not_or] at hn
      exact hfails (by simp [entryCheck, hn])
  · refine firstFailing_of_firstFails (check := entryCheck v) ?sorted' ?decides' ?listed' h
    case sorted' => simp [scheduleChecks, yes, hy]
    case decides' => simp [scheduleChecks, yes, entryCheck, isFlagByte, hy]
    case listed' =>
      obtain ⟨hfails, -⟩ := h
      by_contra hn
      simp only [scheduleChecks, yes, hy, decide_false, Bool.false_eq_true, if_false, List.append_nil,
        List.map_cons, List.map_nil, List.mem_cons, List.not_mem_nil, or_false, not_or] at hn
      exact hfails (by simp [entryCheck, hn, hy])

end Sys2Proof.Machine
end

section
/-! PROOF. The load requests. -/

namespace Sys2Proof.Proofs

open Sys2Proof.Machine

/-- Settles O17: the fields read back, the thirteen checks by their numbers. -/
theorem loadCell : Obligations.LoadCell := by
  intro t tag s hh hm widths
  have taken {args : List Byte} {s' : State} {a : Answer} (hb : Machine.loadCell args (arrive t s) = (s', a)) :
      exec (.loadCell t tag args) s = answered 0x01 tag a (arrive t s) s' :=
    takeRequest_of_empty 0x01 tag hh hb
  refine ⟨fun c hc => taken ?_, fun v n hsized hfails => taken ?_⟩
  · rw [loadCell_of_split (splitFields_cell hc), load_of_pass (s := arrive t s) hm (cellChecks_pass hc),
      cellOf_fields]
    rfl
  · exact (loadCell_of_split (splitFields_arguments (widths := cellWidths) hsized)).trans
      (load_of_fail (s := arrive t s) hm (firstFailing_cellChecks hfails))

/-- Settles O18: the rows and the band read back; the search for the first bad row. -/
theorem loadRoadload : Obligations.LoadRoadload := by
  intro t tag table s hh hm args
  have taken {s' : State} {a : Answer} (hb : Machine.loadRoadload args (arrive t s) = (s', a)) :
      exec (.loadRoadload t tag args) s = answered 0x02 tag a (arrive t s) s' :=
    takeRequest_of_empty 0x02 tag hh hb
  refine ⟨fun hr => taken ?_, fun n hlen hrows hband hfails => taken ?_⟩
  · have hlen : table.rows.length < 256 := by have := hr.count; omega
    have hrows : ∀ r ∈ table.rows, r.speed < 2 ^ 24 ∧ r.force < 2 ^ 16 := fun r hrow => by
      have := hr.row r hrow
      omega
    have hband : table.band < 2 ^ 24 := by have := hr.band; omega
    rw [loadRoadload_packed hlen hrows hband, load_of_pass (s := arrive t s) hm (roadChecks_pass hr)]
    rfl
  · exact (loadRoadload_packed hlen hrows hband).trans (
      load_of_fail (s := arrive t s) hm (firstFailing_roadChecks hfails))

/-- Settles O19: the fields read back; a record not present has its first two checks alone. -/
theorem loadStation : Obligations.LoadStation := by
  intro t tag s hh hm widths
  have taken {args : List Byte} {s' : State} {a : Answer} (hb : Machine.loadStation args (arrive t s) = (s', a)) :
      exec (.loadStation t tag args) s = answered 0x03 tag a (arrive t s) s' :=
    takeRequest_of_empty 0x03 tag hh hb
  refine ⟨fun i r hr => taken ?_, fun i v hsized h0 h1 => taken ?_, fun v n hsized hfails => taken ?_⟩
  · rw [loadStation_of_split (splitFields_station i hr), yes_one, if_pos rfl, if_pos rfl,
      load_of_pass (s := arrive t s) hm (stationChecks_pass i hr), stationOf_fields hr.present,
      Fin.ofNat_val_eq_self]
    rfl
  · rw [reset_stationRec, reset_station]
    exact loadStation_notPresent (s := arrive t s) hm hsized h0 h1
  · exact (loadStation_of_split (splitFields_arguments (widths := stationWidths) hsized)).trans
      (load_of_fail (s := arrive t s) hm (firstFailing_stationChecks hfails))

/-- Settles O20: the fields read back, the twenty checks by their numbers. -/
theorem loadGroup : Obligations.LoadGroup := by
  intro t tag s hh hm widths
  have taken {args : List Byte} {s' : State} {a : Answer} (hb : Machine.loadGroup args (arrive t s) = (s', a)) :
      exec (.loadGroup t tag args) s = answered 0x04 tag a (arrive t s) s' :=
    takeRequest_of_empty 0x04 tag hh hb
  refine ⟨fun g other r hr hne hfree => taken ?_, fun other v n hsized hne hfails => taken ?_⟩
  · have hother : otherGroup g = other := otherGroup_eq hne
    have hdisjoint : r.members &&& ((arrive t s).store.groups.get (otherGroup g)).members = 0 :=
      hother ▸ members_and_eq_zero_iff.2 fun i hi h => hfree ⟨i, hi⟩ h
    rw [loadGroup_of_split (splitFields_group g hr), Fin.ofNat_val_eq_self,
      load_of_pass (s := arrive t s) hm (groupChecks_pass g hr hdisjoint), groupRecOf_fields, reset_group]
    rfl
  · exact loadGroup_of_fails (s := arrive t s) hm hsized hne hfails

/-- Settles O21: the segment's number and state, then the checks of the fields. -/
theorem loadSlot : Obligations.LoadSlot := by
  intro t tag s hh hm widths placed done refused
  have taken {args : List Byte} {s' : State} {a : Answer} (hb : Machine.loadSlot args (arrive t s) = (s', a)) :
      exec (.loadSlot t tag args) s = answered 0x05 tag a (arrive t s) s' :=
    takeRequest_of_empty 0x05 tag hh hb
  refine ⟨fun v hsized hg => taken ?_, fun g => ⟨fun v hsized h0 hstate => taken ?_, fun hrest =>
    ⟨fun k r hr hfree => taken ?_, fun k v hsized h0 h1 h2 => taken ?_, fun v m hsized h0 hfails => taken ?_⟩⟩⟩
  · exact loadSlot_of_noSegment (s := arrive t s) hm (splitFields_arguments (widths := slotWidths) hsized) hg
  · exact loadSlot_of_running (s := arrive t s) hm (h0 ▸ splitFields_slotArguments hsized) hstate
  · rw [loadSlot_of_rest (s := arrive t s) hm (splitFields_slot g k hr) hrest, checkedLoad,
      show (arrive t s).store = s.store from rfl, slotChecks_pass hr hfree, slotOf_fields hr.enabled,
      Nat.add_sub_cancel, Fin.ofNat_val_eq_self]
    rfl
  · have hsplit : splitFields slotWidths (arguments 0 slotWidths v) =
        some [g.num.val, k.val + 1, 0, v 3, v 4, v 5, v 6] := by
      rw [splitFields_slotArguments hsized, h0, h1, h2]
    refine (loadSlot_of_rest (s := arrive t s) hm hsplit hrest).trans ?_
    rw [checkedLoad, slotChecks_pass_of_disabled, Nat.add_sub_cancel, Fin.ofNat_val_eq_self]
    rfl
  · refine (loadSlot_of_rest (s := arrive t s) hm (h0 ▸ splitFields_slotArguments hsized) hrest).trans ?_
    rw [checkedLoad, show (arrive t s).store = s.store from rfl, firstFailing_slotChecks hfails]
    rfl

/-- Settles O22: the fields read back, the seven checks by their numbers. -/
theorem loadSchedule : Obligations.LoadSchedule := by
  intro t tag s hh widths placed
  have taken {args : List Byte} {s' : State} {a : Answer}
      (hb : Machine.loadSchedule args (arrive t s) = (s', a)) :
      exec (.loadSchedule t tag args) s = answered 0x06 tag a (arrive t s) s' :=
    takeRequest_of_empty 0x06 tag hh hb
  refine ⟨fun n e hn he => taken ?_, fun v hsized h0 h1 => taken ?_, fun v n hsized hfails => taken ?_⟩
  · rw [loadSchedule_of_split (splitFields_entry hn he), checkedLoad, scheduleChecks_pass hn he,
      schedEntryOf_fields he.enabled]
    rfl
  · have hsplit : splitFields scheduleWidths (arguments 0 scheduleWidths v) =
        some [v 0, 0, v 2, v 3, v 4, v 5, v 6] := by
      rw [splitFields_scheduleArguments hsized, h1]
    refine (loadSchedule_of_split (s := arrive t s) hsplit).trans ?_
    rw [checkedLoad, scheduleChecks_pass_of_disabled h0]
    rfl
  · have hoperand : v 3 ≤ 255 := Nat.le_of_lt_succ (hsized 3 1 rfl)
    refine (loadSchedule_of_split (s := arrive t s) (splitFields_scheduleArguments hsized)).trans ?_
    rw [checkedLoad, firstFailing_scheduleChecks hoperand hfails]
    rfl

end Sys2Proof.Proofs
end

section
/-! SUPPORT. The bytes of records, runtime records, items and events as packed fields, their codes by the
tables of chapter 11. -/

namespace Sys2Proof.Machine

variable {s : State}

/-! ## Fields one by one -/

theorem beInt_natCast (w n : Nat) : beInt w (n : Int) = beBytes w n := by rw [← packed_int, packed_nat]

/-- R195: the first field in its width, then the rest. -/
theorem packed_field (w : Nat) (z : Int) (fs : List (Nat × Int)) : packed ((w, z) :: fs) = beInt w z ++ packed fs := by
  rw [packed_cons, packed_int]

theorem packed_zero (w : Nat) : packed [(w, 0)] = List.replicate w 0 := by
  induction w with
  | zero => rfl
  | succ w ih => rw [packed_succ, ih, List.replicate_succ, Int.zero_ediv]; rfl

theorem beInt_zero (w : Nat) : beInt w 0 = List.replicate w 0 := by rw [← packed_int, packed_zero]

theorem packed_flatMap {α : Type} (l : List α) (f : α → List (Nat × Int)) :
    packed (l.flatMap f) = (l.map fun x => packed (f x)).flatten := by
  rw [packed, List.flatMap_assoc, List.flatMap_def]
  rfl

theorem beBool_eq (b : Bool) : beBool b = beBytes 1 b.toNat := by cases b <;> rfl

theorem byte_eq (b : Byte) : [b] = beBytes 1 b.toNat := by simp [beBytes]

/-- R200: the presence flags, the first in bit `k`. -/
theorem sum_zipIdx_eq (flags : List Bool) (k : Nat) :
    ((flags.zipIdx k).map fun f => if f.1 then (2 : Int) ^ f.2 else 0).sum = 2 ^ k * presence flags := by
  induction flags generalizing k with
  | nil => simp [presence]
  | cons b rest ih =>
    rw [List.zipIdx_cons, List.map_cons, List.sum_cons, ih, presence]
    cases b <;> simp [pow_succ] <;> ring

theorem present_eq (flags : List Bool) : present flags = presence flags := by
  rw [present, sum_zipIdx_eq, pow_zero, one_mul]

/-! ## Codes (R199, R200) -/

theorem stationStateCode_eq (x : StationState) : stationStateCode x = codeIn stationOrder x := by
  cases x <;> rfl

theorem sourceCode_eq (x : Source) : sourceCode x = codeIn sourceOrder x := by cases x <;> rfl

theorem slotClassCode_eq (x : SlotClass) : slotClassCode x = codeIn classOrder x := by cases x <;> rfl

theorem checkResultCode_eq (x : CheckResult) : checkResultCode x = codeIn checkResultOrder x := by
  cases x <;> rfl

theorem itemKindCode_eq (x : ItemKind) : itemKindCode x = codeIn itemOrder x := by cases x <;> rfl

theorem resultCode_eq (x : ResultCode) : resultCode x = codeIn resultOrder x := by cases x <;> rfl

theorem stationReasonCode_eq (x : StationReason) : stationReasonCode x = codeIn stationReasonOrder x := by
  cases x <;> rfl

theorem initMarkCode_eq (x : InitMark) : initMarkCode x = codeIn markOrder x := by cases x <;> rfl

theorem groupReasonCode_eq (x : GroupReason) : groupReasonCode x = codeIn groupReasonOrder x := by
  cases x <;> rfl

theorem segReasonCode_eq (x : SegReason) : segReasonCode x = codeIn segReasonOrder x := by cases x <;> rfl

theorem pacingReasonCode_eq (x : PacingReason) : pacingReasonCode x = codeIn pacingReasonOrder x + 1 := by
  cases x <;> rfl

theorem haltCode_eq (x : HaltReason) : haltCode x = haltReasonCode x := by cases x <;> rfl

theorem endCauseCode_eq (x : EndCause) : endCauseCode x = codeIn endCauseOrder x := by cases x <;> rfl

theorem checkReasonCode_eq (x : CheckReason) : checkReasonCode x = codeIn checkReasonOrder x := by
  cases x <;> rfl

theorem checkEventReason_eq (x : CheckOutcome) : checkEventReason x = checkOutcomeCode x := by
  rcases x with _ | _ | r
  · rfl
  · rfl
  · cases r <;> rfl

theorem driveModeCode_eq (x : DriveMode) : driveModeCode x = codeIn driveOrder x := by cases x <;> rfl

theorem modeField_eq (x : Mode) : (if x = .config then 0 else 1 : Int) = modeCode x := by cases x <;> rfl

theorem groupKindField_eq (x : GroupKind) : (if x = .mean then 0 else 1 : Int) = groupKindCode x := by
  cases x <;> rfl

theorem directionField_eq (x : Direction) : (if x = .plus then 0x01 else 0xFF : Int) = directionCode x := by
  cases x <;> rfl

theorem segStateField_eq (x : SegState) :
    segStateField x = beBytes 1 (Config.segmentStateCode (codeIn [.down, .boot, .up, .jammed] x)).toNat := by
  rw [← byte_eq]
  cases x <;> rfl

theorem transmitterField_eq (b : Bool) : transmitterField b = beBytes 1 (Config.transmitterCode b.toNat).toNat := by
  rw [← byte_eq]
  cases b <;> rfl

theorem checkStateField_eq (b : Bool) : checkStateField b = beBytes 1 (Config.checkStateCode b.toNat).toNat := by
  rw [← byte_eq]
  cases b <;> rfl

theorem statusOrCode_eq (x : GroupRt) : statusOrCode x = presence [x.limiting, x.brake] := by
  rw [statusOrCode, headerBit_eq, headerBit_eq]
  cases x.limiting <;> cases x.brake <;> rfl

/-! ## The configuration records (R176) -/

theorem cellBytes_eq (c : CellRec) : cellBytes c = packed (cellFields c) := by
  simp only [cellBytes, cellFields, packed_field, beInt_natCast, packed_nil, beBool_eq, maskBytes, List.append_assoc,
    List.append_nil]
  rfl

theorem roadRowBytes_eq (r : RoadRow) : roadRowBytes r = packed (rowFields r) := by
  simp only [roadRowBytes, rowFields, packed_field, beInt_natCast, packed_nil, List.append_nil]

theorem roadBytes_eq (t : RoadTable) (first : Nat) :
    roadBytes t first = packed ([(1, (t.rows.length : Int)), (3, (t.band : Int))]
      ++ ((t.rows.drop (first - 1)).take 8).flatMap rowFields) := by
  simp only [roadBytes, packed_append, packed_field, beInt_natCast, packed_nil, List.append_nil, packed_flatMap,
    ← roadRowBytes_eq]

theorem stationRecBytes_eq (r : StationRec) : stationRecBytes r = packed (stationFields r) := by
  simp only [stationRecBytes, stationFields, directionField_eq, packed_field, beInt_natCast, packed_nil,
    beBool_eq,
    List.append_assoc, List.append_nil]

theorem groupRecBytes_eq (r : GroupRec) : groupRecBytes r = packed (groupFields r) := by
  simp only [groupRecBytes, groupFields, groupKindField_eq, packed_field, beInt_natCast, packed_nil, List.append_assoc,
    List.append_nil]

theorem slotRecBytes_eq (r : SlotRec) : slotRecBytes r = packed (slotFields r) := by
  simp only [slotRecBytes, slotFields, packed_field, beInt_natCast, packed_nil, beBool_eq, List.append_assoc,
    List.append_nil]

theorem schedEntryBytes_eq (e : SchedEntry) : schedEntryBytes e = packed (entryFields e) := by
  simp only [schedEntryBytes, entryFields, itemKindCode_eq, packed_field, beInt_natCast, packed_nil,
    beBool_eq,
    List.append_assoc, List.append_nil]

/-! ## The runtime records (R177) -/

theorem partBytes_eq (s : State) : partBytes s = packed (partFields s) := by
  simp only [partBytes, partFields, modeField_eq, packed_field, beInt_natCast, packed_nil, beBool_eq, maskBytes,
    List.append_assoc, List.append_nil]

theorem pacingBytes_eq (s : State) : pacingBytes s = packed (pacingFields s.now s.pacing) := by
  simp only [pacingBytes, pacingFields, present_eq, haltCode_eq, pacingStateCode_eq, packed_field, beInt_natCast,
    packed_nil, beBool_eq, sinceAnchor, List.append_assoc, List.append_nil]
  cases s.pacing.anchor with
  | none => rfl
  | some a =>
    have hmicros : (s.now - a) / 25 = (s.now - a) * 40 / 1000 := by omega
    simp only [Option.isSome_some, if_true, Option.getD_some, hmicros, beInt_natCast]

theorem portBytes_eq (s : State) : portBytes s = packed (portFields s.port) := by
  simp only [portBytes, portFields, driveModeCode_eq, transmitterField_eq, packed_field, beInt_natCast, packed_nil,
    beBool_eq,
    List.append_assoc, List.append_nil]

theorem demandBytes_eq (d : EffDemand) : demandBytes d = packed (demandFields d) := by
  simp only [demandBytes, demandFields, driveModeCode_eq, packed_field, beInt_natCast, packed_nil,
    beBool_eq,
    List.append_assoc, List.append_nil]

theorem identityBytes_eq (v : Option Identity) :
    identityBytes v = beBytes 2 ((v.map Identity.typeCode).getD 0) ++ beBytes 2 ((v.map Identity.firmware).getD 0) := by
  cases v <;> rfl

theorem stationBytes_eq (x : StationRt) : stationBytes x = packed (stationRtFields x) := by
  simp only [stationBytes, stationRtFields, present_eq, stationStateCode_eq, stationReasonCode_eq,
    initMarkCode_eq, identityBytes_eq, byte_eq, packed_field, beInt_natCast, packed_nil, List.append_assoc,
    List.append_nil]

theorem outputBytes_eq (p : SetPoint) (memory : Int) (d : Direct) :
    outputBytes p memory d = packed (outputFields p memory d) := by
  simp only [outputBytes, outputFields, sourceCode_eq, endCauseCode_eq, packed_field, beInt_natCast,
    packed_nil, beBool_eq, List.append_assoc, List.append_nil]

theorem groupBytes_eq (x : GroupRt) : groupBytes x = packed (groupRtFields x) := by
  simp only [groupBytes, groupRtFields, present_eq, groupStateCode_eq, groupReasonCode_eq, statusOrCode_eq,
    packed_field, beInt_natCast, packed_nil, List.append_assoc, List.append_nil]

theorem memberBytes_eq (x : GroupRt) (i : Fin 4) : memberBytes x i = packed (memberFields x i) := by
  simp only [memberBytes, memberFields, packed_field, packed_nil, List.append_assoc, List.append_nil]

theorem membersBytes_eq (x : GroupRt) : membersBytes x = packed (four.flatMap (memberFields x)) := by
  rw [membersBytes, packed_flatMap, funext (memberBytes_eq x)]

theorem segmentBytes_eq (now : Nat) (x : Segment) : segmentBytes now x = packed (segmentFields now x) := by
  simp only [segmentBytes, segmentFields, present_eq, segStateField_eq, segReasonCode_eq, packed_field,
    beInt_natCast, packed_nil, List.append_assoc, List.append_nil]
  cases x.pendingSync with
  | none => simp only [beInt_zero]; rfl
  | some p => simp only [beInt_natCast]

/-- R188: a MEASURE record, or zeros for an EMPTY buffer. -/
theorem measureBytes_eq (m : Measure) :
    measureBytes m = packed [(4, m.cps), (3, m.torque), (1, (m.status.toNat : Int)), (4, (m.serial.toNat : Int))] := by
  simp only [measureBytes, byte_eq, packed_field, beInt_natCast, packed_nil, List.append_assoc,
    List.append_nil]

theorem slotBytes_eq (x : SlotRt) : slotBytes x = packed (slotRtFields x) := by
  rw [slotBytes, slotRtFields, present_eq]
  cases x.buffer with
  | none =>
    simp only [slotClassCode_eq, packed_field, beInt_natCast, packed_nil, List.append_assoc, List.append_nil]
    rfl
  | some m =>
    simp only [slotClassCode_eq, measureBytes_eq, Option.map_some, Option.getD_some, packed_field, beInt_natCast,
      packed_nil, List.append_assoc, List.append_nil]

/-! ## READ_EVENTS and READ_CHECK (R101, R194) -/

theorem contextBytes_eq (c : CheckContext) : contextBytes c = packed (contextFields c) := by
  simp only [contextBytes, contextFields, checkStateField_eq, packed_field, beInt_natCast, packed_nil, List.append_assoc,
    List.append_nil]

theorem lastCheckBytes_eq (c : LastCheck) : lastCheckBytes c = packed (lastCheckFields c) := by
  simp only [lastCheckBytes, lastCheckFields, checkResultCode_eq, checkReasonCode_eq, packed_field, beInt_natCast,
    packed_nil, List.append_assoc, List.append_nil]

/-- R192, R200: the parts of an event by their fields. -/
theorem eventParts_eq (b : EventBody) :
    ((eventParts b).1, (eventParts b).2.1 * 2 ^ 4 + (eventParts b).2.2.1, (eventParts b).2.2.2) =
      (((eventFields b).1 : Int), ((eventFields b).2.1 : Int), ((eventFields b).2.2.1 : Int),
        ((eventFields b).2.2.2 : Int)) := by
  cases b with
  | restarted => rfl
  | pacing r => simp [eventParts, eventFields, pacingReasonCode_eq]
  | cycleSkew v => rfl
  | mode entered => cases entered <;> rfl
  | segment g r => simp [eventParts, eventFields, segReasonCode_eq]
  | station i r => simp [eventParts, eventFields, stationReasonCode_eq]
  | group g r e => simp [eventParts, eventFields, groupReasonCode_eq]
  | check g o peak => simp [eventParts, eventFields, checkEventReason_eq]
  | demand lost => cases lost <;> rfl
  | direct i started => cases started <;> simp [eventParts, eventFields]

theorem eventBytes_eq (e : Event) : eventBytes e = packed (eventRecord e) := by
  have hparts := eventParts_eq e.body
  simp only [Prod.ext_iff] at hparts
  obtain ⟨hkind, hindex, hreason, hvalue⟩ := hparts
  simp only [eventBytes, eventRecord, hkind, hindex, hreason, hvalue, packed_field, beInt_natCast, packed_nil,
    List.append_assoc, List.append_nil]

/-! ## The answers (R101, R176, R177) -/

theorem slotOfOperand_slot (s : State) {n : Nat} (h : n ≤ 7) :
    s.slot (slotOfOperand n).1 (slotOfOperand n).2 = (s.segs.get (Fin.ofNat 2 (n / 4))).slots.get (Fin.ofNat 4 n) := by
  interval_cases n <;> rfl

theorem slotOfOperand_slotRec (s : State) {n : Nat} (h : n ≤ 7) :
    s.slotRec (slotOfOperand n).1 (slotOfOperand n).2 =
      (s.store.slots.get (Fin.ofNat 2 (n / 4))).get (Fin.ofNat 4 n) := by
  interval_cases n <;> rfl

theorem readAnswer_congr {ok : Bool} {a b : List Byte} (h : ok = true → a = b) :
    readAnswer ok a = readAnswer ok b := by
  cases ok with
  | false => rfl
  | true => rw [h rfl]

/-- R176, R177: an answer by the range of the selector's operand. -/
theorem readAnswered_of_range {ranges : List (Nat × Nat)} {n operand lo hi : Nat} {data : List Byte}
    (h : ranges[n]? = some (lo, hi)) :
    readAnswered ranges data n operand = readAnswer (inRange lo hi operand) data := by
  simp only [readAnswered, h, readAnswer, inRange, Bool.and_eq_true, decide_eq_true_eq]
  rfl

theorem tableAnswer_eq (s : State) (n k : Nat) :
    tableAnswer s n k = readAnswered [(0, 0), (1, 24), (0, 3), (0, 1), (0, 7), (0, 15)]
      (packed (tableFields s.store n k)) n k := by
  match n with
  | 0 => rw [readAnswered_of_range rfl]; simp [tableAnswer, tableFields, cellBytes_eq, inRange]
  | 1 => rw [readAnswered_of_range rfl, tableAnswer, roadBytes_eq]; rfl
  | 2 => rw [readAnswered_of_range rfl, tableAnswer, stationRecBytes_eq]; rfl
  | 3 => rw [readAnswered_of_range rfl, tableAnswer, groupRecBytes_eq]; rfl
  | 4 =>
    rw [readAnswered_of_range rfl, tableAnswer, slotRecBytes_eq]
    refine readAnswer_congr fun hk => ?_
    rw [slotOfOperand_slotRec s (by simpa [inRange] using hk)]
    rfl
  | 5 =>
    rw [readAnswered_of_range rfl]
    simp only [tableAnswer, tableFields, packed_flatMap, funext schedEntryBytes_eq]
  | n + 6 => rfl

theorem runtimeAnswer_eq (s : State) (n k : Nat) :
    runtimeAnswer s n k =
      readAnswered [(0, 0), (0, 0), (0, 0), (0, 0), (0, 3), (0, 3), (0, 1), (0, 1), (0, 1), (0, 7)]
        (packed (runtimeFields s n k)) n k := by
  match n with
  | 0 => rw [readAnswered_of_range rfl]; simp [runtimeAnswer, runtimeFields, partBytes_eq, inRange]
  | 1 => rw [readAnswered_of_range rfl]; simp [runtimeAnswer, runtimeFields, pacingBytes_eq, inRange]
  | 2 => rw [readAnswered_of_range rfl]; simp [runtimeAnswer, runtimeFields, portBytes_eq, inRange]
  | 3 => rw [readAnswered_of_range rfl]; simp [runtimeAnswer, runtimeFields, demandBytes_eq, inRange]
  | 4 => rw [readAnswered_of_range rfl, runtimeAnswer, stationBytes_eq]; rfl
  | 5 => rw [readAnswered_of_range rfl, runtimeAnswer, outputBytes_eq]; rfl
  | 6 => rw [readAnswered_of_range rfl, runtimeAnswer, groupBytes_eq]; rfl
  | 7 => rw [readAnswered_of_range rfl, runtimeAnswer, membersBytes_eq]; rfl
  | 8 => rw [readAnswered_of_range rfl, runtimeAnswer, segmentBytes_eq]; rfl
  | 9 =>
    rw [readAnswered_of_range rfl, runtimeAnswer, slotBytes_eq]
    refine readAnswer_congr fun hk => ?_
    rw [slotOfOperand_slot s (by simpa [inRange] using hk)]
    rfl
  | n + 10 => rfl

theorem splitFields_selector (selector operand : Byte) :
    splitFields [1, 1] [selector, operand] = some [selector.toNat, operand.toNat] := by
  have hbytes : [selector, operand] = packed [(1, (selector.toNat : Int)), (1, (operand.toNat : Int))] := by
    rw [packed_field, packed_field, packed_nil, beInt_natCast, beInt_natCast, ← byte_eq, ← byte_eq]
    rfl
  rw [hbytes]
  exact splitFields_packed [(1, selector.toNat), (1, operand.toNat)] (by simp [selector.isLt, operand.isLt])

theorem readTable_pair (selector operand : Byte) :
    readTable [selector, operand] s = (s, tableAnswer s selector.toNat operand.toNat) := by
  rw [readTable, splitFields_selector]

theorem readRuntime_pair (selector operand : Byte) :
    readRuntime [selector, operand] s = (s, runtimeAnswer s selector.toNat operand.toNat) := by
  rw [readRuntime, splitFields_selector]

/-! ## The UPLINK (R187, R188, R199) -/

theorem maxIntegratorMicrons_eq (x : GroupRt) : maxIntegratorMicrons x = (x.maxIntegrator + 500) / 1000 := by
  rw [maxIntegratorMicrons, roundDiv_natCast, Int.toNat_natCast]
  omega

theorem stationMotionItem_eq (x : StationRt) : stationMotionItem x = packed (motionFields x) := by
  rw [stationMotionItem, motionFields]
  split
  · exact (packed_zero 8).symm
  · simp only [stationStateCode_eq, packed_field, beInt_natCast, packed_nil, List.append_assoc, List.append_nil]

theorem stationDriveItem_eq (x : StationRt) (p : SetPoint) :
    stationDriveItem x p = packed (driveFields x p) := by
  rw [stationDriveItem, driveFields]
  split
  · exact (packed_zero 7).symm
  · have hsource : (codeIn sourceOrder p.source + p.limited.toNat * 2 ^ 6 + p.slewed.toNat * 2 ^ 7 : Int) =
        (sourceCode p.source + headerBit 6 p.limited + headerBit 7 p.slewed : Nat) := by
      rw [headerBit_eq, headerBit_eq, sourceCode_eq]
      push_cast
      rfl
    simp only [hsource, packed_field, beInt_natCast, packed_nil, List.append_assoc, List.append_nil]

theorem groupItem_eq (r : GroupRec) (x : GroupRt) : groupItem r x = packed (groupItemFields r x) := by
  rw [groupItem, groupItemFields]
  split
  · exact (packed_zero 13).symm
  · simp only [groupStateCode_eq, maxIntegratorMicrons_eq, statusOrCode_eq, present_eq, packed_field, beInt_natCast,
      packed_nil, List.append_assoc, List.append_nil]

theorem slotItem_eq (x : SlotRt) : slotItem x = packed (slotItemFields x) := by
  rw [slotItem, slotItemFields]
  cases x.buffer with
  | none =>
    simp only [slotClassCode_eq, packed_field, beInt_natCast, beInt_zero, packed_nil, List.append_nil]
  | some m =>
    have hclass : (codeIn classOrder x.lastClass + 2 ^ 7 : Int) = (slotClassCode x.lastClass + 0x80 : Nat) := by
      rw [slotClassCode_eq]
      rfl
    simp only [hclass, measureBytes_eq, packed_field, beInt_natCast, packed_nil, List.append_nil]

theorem checkItem_eq (s : State) : checkItem s = packed (checkItemFields s.check s.lastCheck) := by
  rw [checkItem, checkItemFields]
  split
  · simp only [packed_field, beInt_natCast, packed_nil, List.append_assoc, List.append_nil]
    rfl
  · have hcycles : (if s.lastCheck.step = 0 then 0 else (s.lastCheck.cycles / s.lastCheck.step : Nat) : Int) =
        (s.lastCheck.cycles / s.lastCheck.step : Nat) := by
      split
      case isTrue h => rw [h, Nat.div_zero]; rfl
      case isFalse => rfl
    simp only [hcycles, checkResultCode_eq, packed_field, beInt_natCast, packed_nil, List.append_assoc,
      List.append_nil]
    rfl

theorem countersItem_eq (s : State) : countersItem s =
    packed [(2, (s.port.linkErrors : Int)), (2, (s.pacing.early : Int)), (2, (s.pacing.missedTotal : Int)),
      (2, ((s.seg .a).stray : Int)), (2, ((s.seg .b).stray : Int))] := by
  simp only [countersItem, packed_field, beInt_natCast, packed_nil, List.append_assoc, List.append_nil]

theorem slotOfOperand_eq (n : Nat) : slotOfOperand n = (if n ≤ 3 then .a else .b, Fin.ofNat 4 n) := by
  simp only [slotOfOperand, Nat.lt_succ_iff]

theorem itemValues_eq (s : State) (kind : ItemKind) (n : Nat) :
    itemValues s kind n = packed (itemFields s kind n) := by
  cases kind with
  | null => rfl
  | stationMotion => exact stationMotionItem_eq _
  | stationDrive => exact stationDriveItem_eq _ _
  | group => exact groupItem_eq _ _
  | slot =>
    rw [itemValues, slotItem_eq, slotOfOperand_eq]
    rfl
  | counters => exact countersItem_eq s
  | check => exact checkItem_eq s

theorem itemValues_length (s : State) (kind : ItemKind) (n : Nat) :
    (itemValues s kind n).length = itemLength kind := by
  rw [itemValues_eq, packed_length]
  cases kind with
  | null => rfl
  | stationMotion => simp only [itemFields, motionFields]; split <;> rfl
  | stationDrive => simp only [itemFields, driveFields]; split <;> rfl
  | group => simp only [itemFields, groupItemFields]; split <;> rfl
  | slot => simp only [itemFields, slotItemFields]; split <;> rfl
  | counters => rfl
  | check => simp only [itemFields, checkItemFields]; split <;> rfl

theorem itemBytes_eq (s : State) (p : ItemKind × Nat) :
    itemBytes s p = packed ([(1, (codeIn itemOrder p.1 : Int)), (1, (p.2 : Int))] ++ itemFields s p.1 p.2) := by
  simp only [itemBytes, itemKindCode_eq, itemValues_eq, packed_append, packed_field, beInt_natCast, packed_nil,
    List.append_nil]

theorem itemBytes_length (s : State) (p : ItemKind × Nat) : (itemBytes s p).length = 2 + itemLength p.1 := by
  simp [itemBytes, itemValues_length]
  omega

theorem replyBytes_eq (r : Reply) : replyBytes r = packed (replyFields r) ++ r.answer.data := by
  have htag : [r.tag, r.code] = beBytes 1 r.tag.toNat ++ beBytes 1 r.code.toNat := by
    rw [← byte_eq, ← byte_eq]
    rfl
  simp only [replyBytes, replyFields, htag, resultCode_eq, packed_field, beInt_natCast, packed_nil,
    List.append_assoc, List.append_nil]

theorem uplinkPayload_eq (s : State) (items : List (ItemKind × Nat)) :
    uplinkPayload s items = uplinkContent s items := by
  have hitems : (items.map (itemBytes s)).flatten = packed (items.flatMap fun p =>
      [(1, (codeIn itemOrder p.1 : Int)), (1, (p.2 : Int))] ++ itemFields s p.1 p.2) := by
    rw [packed_flatMap, funext (itemBytes_eq s)]
  rw [uplinkPayload, uplinkContent, hitems]
  simp only [packed_append, packed_field, beInt_natCast, packed_nil, List.append_assoc, List.append_nil]
  cases s.mgmt.holder with
  | none => rfl
  | some r => simp only [replyBytes_eq]

theorem uplinkPayload_length (s : State) (items : List (ItemKind × Nat)) :
    (uplinkPayload s items).length = 10 + (items.map fun p => 2 + itemLength p.1).sum +
      (match s.mgmt.holder with
        | some r => 8 + r.answer.data.length
        | none => 0) := by
  have hitems : (items.map (itemBytes s)).flatten.length = (items.map fun p => 2 + itemLength p.1).sum := by
    rw [List.length_flatten, List.map_map]
    exact congrArg List.sum (List.map_congr_left fun p _ => itemBytes_length s p)
  rw [uplinkPayload, List.length_append, List.length_append, hitems]
  cases s.mgmt.holder with
  | none => simp
  | some r => simp [replyBytes]; omega

/-- R195: an UPLINK frame, field by field. -/
theorem uplinkFrame_eq (s : State) (items : List (ItemKind × Nat)) :
    uplinkFrame s items =
      packed [(1, 0x7E)] ++ (packed [(1, 0x81), (1, ((uplinkContent s items).length : Int))] ++ uplinkContent s items)
        ++ packed [(2, ((crc16 (packed [(1, 0x81), (1, ((uplinkContent s items).length : Int))]
          ++ uplinkContent s items)).toNat : Int))] := by
  have hhead : packed [(1, 0x81), (1, ((uplinkContent s items).length : Int))] =
      [0x81, BitVec.ofNat 8 (uplinkContent s items).length] := by
    rw [packed_field, packed_nat, beBytes_one]
    rfl
  rw [hhead, packed_nat, uplinkFrame, uplinkPayload_eq, cellFrame, frameBody]
  rfl

theorem uplinkFrame_length (s : State) (items : List (ItemKind × Nat)) :
    (uplinkFrame s items).length = 15 + (items.map fun p => 2 + itemLength p.1).sum +
      (match s.mgmt.holder with
        | some r => 8 + r.answer.data.length
        | none => 0) := by
  have hpayload := uplinkPayload_length s items
  simp only [uplinkFrame, cellFrame, frameBody, List.length_cons, List.length_append, beBytes_length]
  omega

/-- R187: of the entries that match, the lowest-numbered. -/
theorem entryFor_cases (store : Store) (index : BitVec 6) (position : Nat) :
    (∃ (j : Nat) (e : SchedEntry), entryFor store index position = some e ∧ store.schedule[j]? = some e ∧
      entryMatches index position e ∧
      ∀ k < j, ∀ e' : SchedEntry, store.schedule[k]? = some e' → ¬ entryMatches index position e') ∨
    entryFor store index position = none ∧ ∀ e ∈ store.schedule, ¬ entryMatches index position e := by
  have hmatches (e : SchedEntry) : (e.enabled && decide (e.position = position) &&
      decide (e.offset = index.toNat % e.repetition)) = true ↔ entryMatches index position e := by
    simp [entryMatches, and_assoc]
  cases h : entryFor store index position with
  | none =>
    refine .inr ⟨rfl, fun e he hm => ?_⟩
    exact absurd ((hmatches e).2 hm) (List.find?_eq_none.1 h e he)
  | some e =>
    obtain ⟨he, before, after, hlist, hbefore⟩ := List.find?_eq_some_iff_append.1 h
    refine .inl ⟨before.length, e, rfl, by simp [hlist], (hmatches e).1 he, fun k hk e' he' hm => ?_⟩
    rw [hlist, List.getElem?_append_left hk] at he'
    have hnot := hbefore e' (List.mem_of_getElem? he')
    rw [(hmatches e').2 hm] at hnot
    cases hnot

theorem cycleItems_getElem? {position : Nat} (h : position < s.store.cell.reportWidth) :
    (cycleItems s)[position]? = some (itemAt s position) := by
  simp [cycleItems, h]

end Sys2Proof.Machine
end

section
/-! PROOF. The reads and the UPLINK. -/

namespace Sys2Proof.Proofs

open Sys2Proof.Machine

/-- Settles O23: each record's bytes are its packed fields. -/
theorem reads : Obligations.Reads := by
  intro t tag selector operand s hh m n k
  refine ⟨?_, ?_, ?_⟩
  · refine takeRequest_of_empty 0x10 tag hh ?_
    rw [readTable_pair, tableAnswer_eq]
    rfl
  · refine takeRequest_of_empty 0x11 tag hh ?_
    rw [readRuntime_pair, runtimeAnswer_eq]
  · refine takeRequest_of_empty 0x13 tag hh ?_
    rw [packed_append, ← contextBytes_eq, ← lastCheckBytes_eq]
    rfl

/-- Settles O24: the oldest records and the depth that remains. -/
theorem readEvents : Obligations.ReadEvents := by
  intro t tag s hh
  refine takeRequest_of_empty 0x12 tag hh ?_
  rw [packed_append, packed_flatMap, ← funext eventBytes_eq, packed_nat, ← List.length_take, ← List.length_drop]
  rfl

/-- Settles O13: the payload is its packed fields, and a position has the entry the search finds. -/
theorem uplinkItems : Obligations.UplinkItems := by
  refine ⟨fun s items => ?_, fun s items => ?_, fun s => ⟨by simp [cycleItems], fun position hp item hitem => ?_⟩⟩
  · exact uplinkFrame_eq s items
  · exact uplinkFrame_length s items
  · obtain rfl := Option.some.inj ((cycleItems_getElem? hp).symm.trans hitem)
    rcases entryFor_cases s.store s.pacing.index position with ⟨j, e, hfor, hj, hm, hfirst⟩ | ⟨hfor, hnone⟩
    · exact .inl ⟨j, e, hj, hm, by simp only [itemAt, hfor], hfirst⟩
    · refine .inr ⟨?_, ?_, hnone⟩ <;> simp only [itemAt, hfor]
      exact (Config.nullOperand position).isLt

end Sys2Proof.Proofs
end

section
/-! SUPPORT. The checks of ENTER_OPERATE on the store (R178), each by what it asks, and the item each names. -/

namespace Sys2Proof.Machine

variable {x : Store}

/-! ## Lists in order -/

/-- The first of a list in the order of its numbers that fails a check. -/
theorem find?_of_first {α : Type} {items : List α} {number : α → Nat} {p : α → Bool} {a : α}
    (horder : items.Pairwise (number · < number ·)) (ha : a ∈ items) (hp : p a = true)
    (hbefore : ∀ b ∈ items, number b < number a → p b = false) : items.find? p = some a := by
  obtain ⟨before, after, rfl⟩ := List.append_of_mem ha
  refine List.find?_eq_some_iff_append.2 ⟨hp, before, after, rfl, fun b hb => ?_⟩
  obtain ⟨-, -, hlt⟩ := List.pairwise_append.1 horder
  rw [hbefore b (List.mem_append_left _ hb) (hlt b hb a List.mem_cons_self)]
  rfl

theorem firstItem_eq {α : Type} {items : List α} {number : α → Nat} {ok : α → Bool} {a : α}
    (horder : items.Pairwise (number · < number ·)) (ha : a ∈ items) (hok : ok a = false)
    (hbefore : ∀ b ∈ items, number b < number a → ok b = true) :
    firstItem items number ok = [BitVec.ofNat 8 (number a)] := by
  rw [firstItem, find?_of_first horder ha (p := fun x => !ok x) (by simp [hok])
    fun b hb hlt => by simp [hbefore b hb hlt]]
  exact beBytes_one _

theorem four_inOrder : four.Pairwise (Fin.val · < Fin.val ·) := by decide

theorem allSlots_inOrder : allSlots.Pairwise (slotIndex · < slotIndex ·) := by decide

theorem pairwise_four {r : Fin 4 → Fin 4 → Prop} : four.Pairwise r ↔ ∀ j k, j < k → r j k := by
  constructor
  · intro h j k hjk
    have hget := List.pairwise_iff_getElem.1 h j.val k.val (by simp [four]) (by simp [four]) hjk
    simpa [four_eq_finRange] using hget
  · exact fun h => four_inOrder.imp fun {j k} hjk => h j k hjk

theorem length_eq_one_iff_of_nodup {α : Type} {l : List α} (hl : l.Nodup) :
    l.length = 1 ↔ ∃ a ∈ l, ∀ b ∈ l, b = a := by
  constructor
  · intro h
    obtain ⟨a, rfl⟩ := List.length_eq_one_iff.1 h
    exact ⟨a, by simp, by simp⟩
  · rintro ⟨a, ha, hall⟩
    match l with
    | [_] => rfl
    | b :: c :: rest =>
      have hb := hall b (by simp)
      have hc := hall c (by simp)
      simp [hb, hc] at hl

theorem sum_filter_map {α : Type} (l : List α) (p : α → Bool) (f : α → Nat) :
    ((l.filter p).map f).sum = (l.map fun a => if p a then f a else 0).sum := by
  induction l with
  | nil => rfl
  | cons a l ih => cases hp : p a <;> simp [hp, ih]

/-! ## The checks -/

theorem mem_presentStations {i : Fin 4} : i ∈ presentStations x ↔ (x.stations.get i).present = true := by
  simp [presentStations, four_eq_finRange]

theorem presentStations_isEmpty : (presentStations x).isEmpty = false ↔ storeCheck x 2 := by
  rw [Bool.eq_false_iff, ne_eq, List.isEmpty_iff, List.eq_nil_iff_forall_not_mem]
  simp [mem_presentStations, storeCheck]

theorem presentShares_sum : ((presentStations x).map fun i => (x.stations.get i).share).sum =
    presentShare x 0 + presentShare x 1 + presentShare x 2 + presentShare x 3 := by
  rw [presentStations, sum_filter_map]
  simp [four, presentShare, Nat.add_assoc]

theorem mem_slotsNaming {gk : Seg × Fin 4} {i : Fin 4} :
    gk ∈ ((enabledEverywhere x).filter fun gk =>
      decide (((x.slots.get gk.1.num).get gk.2).station = i)) ↔ slotNames x gk i := by
  simp [enabledEverywhere, mem_allSlots, slotNames, and_comm]

theorem slotsNaming_eq_one {i : Fin 4} :
    slotsNaming x i = 1 ↔ ∃ gk, slotNames x gk i ∧ ∀ gk', slotNames x gk' i → gk' = gk := by
  have hnodup : allSlots.Nodup := by decide
  rw [slotsNaming, enabledEverywhere, length_eq_one_iff_of_nodup ((hnodup.filter _).filter _), ← enabledEverywhere]
  simp only [mem_slotsNaming]

theorem slotsNaming_eq_zero {i : Fin 4} : slotsNaming x i = 0 ↔ ∀ gk, ¬ slotNames x gk i := by
  rw [slotsNaming, List.length_eq_zero_iff, List.eq_nil_iff_forall_not_mem]
  simp only [mem_slotsNaming]

theorem namesAbsent_iff {gk : Seg × Fin 4} :
    gk ∈ enabledEverywhere x ∧ namesAbsent x gk = true ↔
      ∃ i, slotNames x gk i ∧ (x.stations.get i).present = false := by
  simp [enabledEverywhere, mem_allSlots, slotNames, namesAbsent]

theorem slotsConsistent_iff : slotsConsistent x = true ↔ storeCheck x 4 := by
  rw [slotsConsistent, Bool.and_eq_true, List.all_eq_true, List.all_eq_true]
  refine and_congr ?_ ?_
  · simp only [mem_presentStations, decide_eq_true_eq, slotsNaming_eq_one]
  · simp [enabledEverywhere, mem_allSlots, slotNames, namesAbsent]

theorem groupConsistent_iff {g : Fin 2} : groupConsistent x g = true ↔ groupReady x g := by
  rw [groupConsistent, Bool.and_eq_true, List.all_eq_true, groupReady]
  refine and_congr (by simp only [mem_membersOf]) ?_
  cases (x.groups.get g).kind <;> simp

theorem roundConsistent_iff {i : Fin 4} (h : (x.stations.get i).present = true) :
    roundConsistent (x.stations.get i) = true ↔ rollerReady x i := by
  simp [roundConsistent, rollerReady, h]

theorem windowsOrdered_iff {recs : List SlotRec} :
    windowsOrdered recs = true ↔ recs.Pairwise fun r q => r.close ≤ q.earliest := by
  induction recs with
  | nil => simp [windowsOrdered]
  | cons r rest ih => simp [windowsOrdered, ih]

theorem windowsConsistent_iff {g : Seg} : windowsConsistent x g = true ↔ windowsReady x g := by
  rw [windowsConsistent, Bool.and_eq_true, windowsOrdered_iff, windowsReady, enabledSlots, List.pairwise_map,
    List.pairwise_filter, pairwise_four]
  refine and_congr Iff.rfl ?_
  simp [four_eq_finRange, or_iff_not_imp_left]

theorem groupsConsistent_iff : [0, 1].all (groupConsistent x) = true ↔ storeCheck x 5 := by
  simp [groupConsistent_iff, storeCheck, Fin.forall_fin_two]

theorem rollersConsistent_iff :
    (presentStations x).all (fun i => roundConsistent (x.stations.get i)) = true ↔ storeCheck x 6 := by
  rw [List.all_eq_true, storeCheck]
  refine forall_congr' fun i => ?_
  rw [mem_presentStations]
  by_cases hp : (x.stations.get i).present = true
  · simp only [hp, forall_const, roundConsistent_iff hp]
  · simp [hp, rollerReady]

theorem segmentsConsistent_iff : [Seg.a, Seg.b].all (windowsConsistent x) = true ↔ storeCheck x 7 := by
  rw [storeCheck]
  constructor
  · intro h g
    refine windowsConsistent_iff.1 (List.all_eq_true.1 h g ?_)
    cases g <;> simp
  · exact fun h => List.all_eq_true.2 fun g _ => windowsConsistent_iff.2 (h g)

theorem periodCheck_iff : ¬ x.cell.period ≤ x.cell.computeOffset + x.cell.tol ↔ storeCheck x 8 := by
  rw [storeCheck]
  omega

/-! ## The item a failed check names -/

/-- R178: a check that names no item. -/
theorem storeItem_plain {n : Nat} (h : n = 1 ∨ n = 2 ∨ n = 3 ∨ n = 8) : StoreItem x n [] where
  none _ := rfl
  unslotted _ := by omega
  absent _ := by omega
  group _ := by omega
  roller _ := by omega
  windows _ := by omega

theorem storeItem_slots : StoreItem x 4 (slotsFailing x) where
  none _ := by omega
  unslotted _ i hi hnone hbefore := by
    have hfirst : (presentStations x).find? (fun i => decide (slotsNaming x i = 0)) = some i := by
      refine find?_of_first (four_inOrder.filter _) (mem_presentStations.2 hi)
        (decide_eq_true (slotsNaming_eq_zero.2 hnone)) fun j hj hlt => ?_
      obtain ⟨gk, hgk⟩ := hbefore j hlt (mem_presentStations.1 hj)
      exact decide_eq_false fun hz => slotsNaming_eq_zero.1 hz gk hgk
    simp only [slotsFailing, hfirst, beBytes_one]
  absent _ hnamed g k i hgk hpresent hbefore := by
    have hnone : (presentStations x).find? (fun i => decide (slotsNaming x i = 0)) = Option.none := by
      refine List.find?_eq_none.2 fun j hj hz => ?_
      obtain ⟨gk, hgk⟩ := hnamed j (mem_presentStations.1 hj)
      exact slotsNaming_eq_zero.1 (of_decide_eq_true hz) gk hgk
    obtain ⟨hmem, habsent⟩ := namesAbsent_iff.2 ⟨i, hgk, hpresent⟩
    have hfirst : (enabledEverywhere x).find? (namesAbsent x) = some (g, k) := by
      refine find?_of_first (allSlots_inOrder.filter _) hmem habsent ?_
      rintro ⟨g', k'⟩ hmem' hlt
      refine Bool.eq_false_iff.2 fun habsent' => ?_
      obtain ⟨i', hgk', hpresent'⟩ := namesAbsent_iff.1 ⟨hmem', habsent'⟩
      rw [hbefore g' k' i' hlt hgk'] at hpresent'
      cases hpresent'
    simp only [slotsFailing, hnone, hfirst, beBytes_one, slotIndex]
  group _ := by omega
  roller _ := by omega
  windows _ := by omega

theorem storeItem_groups : StoreItem x 5 (firstItem [0, 1] Fin.val (groupConsistent x)) where
  none _ := by omega
  unslotted _ := by omega
  absent _ := by omega
  group _ g hg hbefore := firstItem_eq (by decide) (by fin_cases g <;> decide)
    (Bool.eq_false_iff.2 (mt groupConsistent_iff.1 hg)) fun g' _ hlt => groupConsistent_iff.2 (hbefore g' hlt)
  roller _ := by omega
  windows _ := by omega

theorem storeItem_rollers :
    StoreItem x 6 (firstItem (presentStations x) Fin.val fun i => roundConsistent (x.stations.get i)) where
  none _ := by omega
  unslotted _ := by omega
  absent _ := by omega
  group _ := by omega
  roller _ i hi hbefore := by
    have hpresent : (x.stations.get i).present = true := by
      by_contra hp
      exact hi fun h => absurd h hp
    exact firstItem_eq (four_inOrder.filter _) (mem_presentStations.2 hpresent)
      (Bool.eq_false_iff.2 (mt (roundConsistent_iff hpresent).1 hi))
      fun j hj hlt => (roundConsistent_iff (mem_presentStations.1 hj)).2 (hbefore j hlt)
  windows _ := by omega

theorem storeItem_windows :
    StoreItem x 7 (firstItem [Seg.a, Seg.b] (fun g => g.num.val) (windowsConsistent x)) where
  none _ := by omega
  unslotted _ := by omega
  absent _ := by omega
  group _ := by omega
  roller _ := by omega
  windows _ g hg hbefore := firstItem_eq (by decide) (by cases g <;> decide)
    (Bool.eq_false_iff.2 (mt windowsConsistent_iff.1 hg)) fun g' _ hlt => windowsConsistent_iff.2 (hbefore g' hlt)

/-! ## The first check that fails -/

theorem storeFailure_of_ready (h : StoreReady x) : storeFailure x = none := by
  have h1 : ¬ x.road.rows.length < 2 := Nat.not_lt.2 (h 1)
  have h3 := presentShares_sum.trans (h 3)
  simp only [storeFailure, if_neg h1, presentStations_isEmpty.2 (h 2), h3, slotsConsistent_iff.2 (h 4),
    groupsConsistent_iff.2 (h 5), rollersConsistent_iff.2 (h 6), segmentsConsistent_iff.2 (h 7),
    if_neg (periodCheck_iff.2 (h 8))]
  simp

theorem storeFailure_of_fails {n : Nat} (hfails : ¬ storeCheck x n) (hearlier : ∀ m < n, storeCheck x m) :
    ∃ data, StoreItem x n data ∧ storeFailure x = some (tableCheck n data) := by
  have h1 (hn : 1 < n) : ¬ x.road.rows.length < 2 := Nat.not_lt.2 (hearlier 1 hn)
  have h2 (hn : 2 < n) := presentStations_isEmpty.2 (hearlier 2 hn)
  have h3 (hn : 3 < n) := presentShares_sum.trans (hearlier 3 hn)
  have h4 (hn : 4 < n) := slotsConsistent_iff.2 (hearlier 4 hn)
  have h5 (hn : 5 < n) := groupsConsistent_iff.2 (hearlier 5 hn)
  have h6 (hn : 6 < n) := rollersConsistent_iff.2 (hearlier 6 hn)
  have h7 (hn : 7 < n) := segmentsConsistent_iff.2 (hearlier 7 hn)
  match n with
  | 0 => exact absurd trivial hfails
  | 1 =>
    refine ⟨_, storeItem_plain (by omega), ?_⟩
    rw [storeFailure, if_pos (Nat.not_le.1 hfails)]
  | 2 =>
    refine ⟨_, storeItem_plain (by omega), ?_⟩
    have hf : (presentStations x).isEmpty = true := by simpa using mt presentStations_isEmpty.1 hfails
    simp [storeFailure, h1, hf]
  | 3 =>
    refine ⟨_, storeItem_plain (by omega), ?_⟩
    have hf := presentShares_sum.trans_ne hfails
    simp [storeFailure, h1, h2, hf]
  | 4 =>
    refine ⟨_, storeItem_slots, ?_⟩
    have hf := mt slotsConsistent_iff.1 hfails
    simp [storeFailure, h1, h2, h3, hf]
  | 5 =>
    refine ⟨_, storeItem_groups, ?_⟩
    have hf := mt groupsConsistent_iff.1 hfails
    simp [storeFailure, h1, h2, h3, h4, hf]
  | 6 =>
    refine ⟨_, storeItem_rollers, ?_⟩
    have hf := mt rollersConsistent_iff.1 hfails
    simp [storeFailure, h1, h2, h3, h4, h5, hf]
  | 7 =>
    refine ⟨_, storeItem_windows, ?_⟩
    have hf := mt segmentsConsistent_iff.1 hfails
    simp [storeFailure, h1, h2, h3, h4, h5, h6, hf]
  | 8 =>
    refine ⟨_, storeItem_plain (by omega), ?_⟩
    have hf := of_not_not (mt periodCheck_iff.1 hfails)
    simp [storeFailure, h1, h2, h3, h4, h5, h6, h7, hf]
  | n + 9 => exact absurd trivial hfails

end Sys2Proof.Machine
end

section
/-! PROOF. ENTER_OPERATE. -/

namespace Sys2Proof.Proofs

open Sys2Proof.Machine

/-- Settles O25: the checks in their order, the item of the first that fails. -/
theorem enterOperate : Obligations.EnterOperate := by
  intro t tag s hh
  have taken {s' : State} {a : Answer} (hb : Machine.enterOperate (arrive t s) = (s', a)) :
      exec (.enterOperate t tag []) s = answered 0x20 tag a (arrive t s) s' :=
    takeRequest_of_empty 0x20 tag hh hb
  have inConfig (hm : s.mgmt.mode = .config) : ¬ (arrive t s).mgmt.mode = .operate := by
    simp [show (arrive t s).mgmt.mode = .config from hm]
  refine ⟨fun hm => taken ?_, fun hm hready => taken ?_, fun hm n hfails hearlier => ?_⟩
  · rw [Machine.enterOperate, if_pos (show (arrive t s).mgmt.mode = .operate from hm)]
    rfl
  · simp only [Machine.enterOperate, if_neg (inConfig hm),
      show storeFailure (arrive t s).store = none from storeFailure_of_ready hready]
    rfl
  · obtain ⟨data, hitem, hfailure⟩ := storeFailure_of_fails hfails hearlier
    refine ⟨data, hitem, taken ?_⟩
    simp only [Machine.enterOperate, if_neg (inConfig hm),
      show storeFailure (arrive t s).store = some (tableCheck n data) from hfailure]
    rfl

end Sys2Proof.Proofs
end

section
/-! SUPPORT. The Pacing Unit: the cycle-begin, what a good interval is, and the outcome of each START and
deadline by its branch (chapter 6). -/

namespace Sys2Proof.Machine

variable {s : State}

theorem cycleBegin_eq (moment : Nat) (index : BitVec 6) (s : State) :
    cycleBegin moment index s = { s with pacing := begun moment index s.store.cell s.pacing } := by
  simp only [cycleBegin, begun]
  cases s.pacing.cpDue <;> rfl

theorem skewEvent_eq (expected index : BitVec 6) (s : State) :
    skewEvent expected index s =
      writeEvents (if index = expected then [] else [.cycleSkew (index - expected).toNat]) s := by
  rw [skewEvent]
  split <;> rfl

@[simp] theorem skewEvent_pacing (expected index : BitVec 6) (s : State) :
    (skewEvent expected index s).pacing = s.pacing := by
  rw [skewEvent]
  split
  · rfl
  · exact writeEvent_pacing _ _

@[simp] theorem skewEvent_store (expected index : BitVec 6) (s : State) :
    (skewEvent expected index s).store = s.store := by
  rw [skewEvent]
  split
  · rfl
  · exact writeEvent_store _ _

/-! ## Intervals (R108, R114) -/

section Intervals

variable {a : Nat} (ha : s.pacing.anchor = some a) (hle : a ≤ s.now)
include ha hle

theorem sinceAnchor_eq : (sinceAnchor s : Int) = (s.now : Int) - a := by
  rw [sinceAnchor, ha]
  simp [Int.ofNat_sub hle]

/-- R108, in REFCLK periods. -/
theorem goodInterval_iff : goodInterval s = true ↔
    25 * (s.pacing.period : Int) - 25 * s.pacing.tol ≤ (s.now : Int) - a ∧
      (s.now : Int) - a ≤ 25 * (s.pacing.period + s.pacing.tol) := by
  rw [← sinceAnchor_eq ha hle, goodInterval, Bool.and_eq_true, decide_eq_true_eq, decide_eq_true_eq, us, us, us]
  refine and_congr ?_ ?_ <;> omega

/-- R114: in TRACKING a START before P − tol is EARLY. -/
theorem early_iff : sinceAnchor s + us s.pacing.tol < us s.pacing.period ↔
    (s.now : Int) - a < 25 * (s.pacing.period : Int) - 25 * s.pacing.tol := by
  rw [← sinceAnchor_eq ha hle, us, us]
  omega

/-- R114: in FREEWHEEL a START before P / 4 is EARLY. -/
theorem veryEarly_iff : 4 * sinceAnchor s < us s.pacing.period ↔
    4 * ((s.now : Int) - a) < 25 * s.pacing.period := by
  have h := sinceAnchor_eq ha hle
  simp only [us]
  omega

end Intervals

theorem silenceDue_eq {a : Nat} (ha : s.pacing.anchor = some a) :
    silenceDue s = a + 25 * (4 * s.pacing.period) := by rw [silenceDue, ha]; rfl

theorem missDue_eq {a : Nat} (ha : s.pacing.anchor = some a) :
    missDue s = a + 25 * (s.pacing.period + s.pacing.tol) := by rw [missDue, ha]; rfl

theorem goodIndex_iff {index : BitVec 6} : goodIndex index s = true ↔ index = s.pacing.index + 1 := by
  simp [goodIndex]

/-! ## The cycle-begin carried (R120) -/

theorem carryCycle_of_pending {change : State → State} (h : s.pacing.haltPending = true) :
    carryCycle change s = enterHalted .haltRequest true s := if_pos h

theorem carryCycle_of_free {change : State → State} (h : s.pacing.haltPending = false) :
    carryCycle change s = bothSegments false true (change s) := if_neg (by simp [h])

/-- R116: the count below the rejoin count. -/
theorem countGoodRun_of_lt {good : Bool} {n : Nat} (hgood : good = true → n = s.pacing.goodRun + 1)
    (hbad : ¬ good = true → n = 0) (h : n < s.store.cell.rejoinCount) :
    countGoodRun good s = s.setPacing { s.pacing with goodRun := n } := by
  have hn : (if good then s.pacing.goodRun + 1 else 0) = n := by
    split
    case isTrue hg => exact (hgood hg).symm
    case isFalse hg => exact (hbad hg).symm
  simp only [countGoodRun, hn, if_neg (Nat.not_le.2 h)]

/-- R116: the count at the rejoin count. -/
theorem countGoodRun_of_le {good : Bool} {n : Nat} (hgood : good = true → n = s.pacing.goodRun + 1)
    (hbad : ¬ good = true → n = 0) (h : s.store.cell.rejoinCount ≤ n) :
    countGoodRun good s = pacingEvent .rejoined
      (s.setPacing { s.pacing with state := .tracking, missed := 0, goodRun := 0 }) := by
  have hn : (if good then s.pacing.goodRun + 1 else 0) = n := by
    split
    case isTrue hg => exact (hgood hg).symm
    case isFalse hg => exact (hbad hg).symm
  simp only [countGoodRun, hn, if_pos h]

/-! ## A START by the pacing state -/

/-- R110, R111: the interval and the index both good. -/
theorem goodStart_iff {a : Nat} {index : BitVec 6} (ha : s.pacing.anchor = some a) (hle : a ≤ s.now) :
    (goodInterval s && goodIndex index s) = true ↔
      (25 * (s.pacing.period : Int) - 25 * s.pacing.tol ≤ (s.now : Int) - a ∧
        (s.now : Int) - a ≤ 25 * (s.pacing.period + s.pacing.tol)) ∧ index = s.pacing.index + 1 := by
  rw [Bool.and_eq_true, goodInterval_iff ha hle, goodIndex_iff]

theorem startInAcquire_of_good {index : BitVec 6} (h : (goodInterval s && goodIndex index s) = true) :
    startInAcquire index s = pacingEvent .goodInterval ((anchorOn index s).setPacing
      { (anchorOn index s).pacing with state := .confirm, confirm := 1 }) := if_pos h

theorem startInAcquire_of_bad {index : BitVec 6} (h : ¬ (goodInterval s && goodIndex index s) = true) :
    startInAcquire index s = anchorOn index s := if_neg h

theorem startInConfirm_of_bad {index : BitVec 6} (h : ¬ (goodInterval s && goodIndex index s) = true) :
    startInConfirm index s = pacingEvent .badStart ((anchorOn index s).setPacing
      { (anchorOn index s).pacing with state := .acquire, confirm := 0 }) := if_neg h

theorem startInConfirm_of_good {index : BitVec 6} (h : (goodInterval s && goodIndex index s) = true) :
    startInConfirm index s =
      if s.pacing.confirm + 1 < 3 then
        (anchorOn index s).setPacing { (anchorOn index s).pacing with confirm := s.pacing.confirm + 1 }
      else carryCycle confirmed (cycleBegin s.now index s) := if_pos h

end Sys2Proof.Machine
end

section
/-! PROOF. The STARTs and the deadlines of the Pacing Unit. -/

namespace Sys2Proof.Proofs

open Sys2Proof.Machine

/-- Settles O35: the branches of the START in LISTEN, ACQUIRE and CONFIRM. -/
theorem startAcquiring : Obligations.StartAcquiring := by
  intro t index s now anchored
  have accepted : exec (.start t index) s = .next (acceptStart index (arrive t s)) := rfl
  refine ⟨fun hs => ?_, fun a ha hle => ?_⟩
  · rw [accepted, acceptStart, show (arrive t s).pacing.state = .listen from hs]
    rfl
  · intro good
    have hgood : (goodInterval (arrive t s) && goodIndex index (arrive t s)) = true ↔ good :=
      goodStart_iff (s := arrive t s) ha hle
    refine ⟨fun hs => ⟨fun hg => ?_, fun hb => ?_⟩, fun hs => ⟨fun hb => ?_, fun hg hc => ?_, fun hg hc hp => ?_,
      fun hg hc hp => ?_⟩⟩
    · rw [accepted, acceptStart, show (arrive t s).pacing.state = .acquire from hs]
      exact congrArg _ (startInAcquire_of_good (hgood.2 hg))
    · rw [accepted, acceptStart, show (arrive t s).pacing.state = .acquire from hs]
      exact congrArg _ (startInAcquire_of_bad (mt hgood.1 hb))
    · rw [accepted, acceptStart, show (arrive t s).pacing.state = .confirm from hs]
      exact congrArg _ (startInConfirm_of_bad (mt hgood.1 hb))
    · rw [accepted, acceptStart, show (arrive t s).pacing.state = .confirm from hs]
      exact congrArg _ ((startInConfirm_of_good (hgood.2 hg)).trans (if_pos hc))
    · have hc3 : ¬ s.pacing.confirm + 1 < 3 := by omega
      rw [accepted, acceptStart, show (arrive t s).pacing.state = .confirm from hs]
      refine congrArg _ ((startInConfirm_of_good (hgood.2 hg)).trans ((if_neg hc3).trans ?_))
      rw [carryCycle_of_free (show (cycleBegin (arrive t s).now index (arrive t s)).pacing.haltPending = false from hp),
        cycleBegin_eq]
      rfl
    · have hc3 : ¬ s.pacing.confirm + 1 < 3 := by omega
      rw [accepted, acceptStart, show (arrive t s).pacing.state = .confirm from hs]
      refine congrArg _ ((startInConfirm_of_good (hgood.2 hg)).trans ((if_neg hc3).trans ?_))
      rw [carryCycle_of_pending
          (show (cycleBegin (arrive t s).now index (arrive t s)).pacing.haltPending = true from hp),
        cycleBegin_eq]
      rfl

/-- Settles O36: the branches of the START in TRACKING, FREEWHEEL and HALTED. -/
theorem startRunning : Obligations.StartRunning := by
  intro t index s now early cycle
  have accepted : exec (.start t index) s = .next (acceptStart index (arrive t s)) := rfl
  have hcycle : startCycle index (arrive t s) = cycle := by
    rw [startCycle, skewEvent_eq, cycleBegin_eq]
    rfl
  have hpending : cycle.pacing.haltPending = s.pacing.haltPending := by
    rw [← hcycle, startCycle, skewEvent_pacing]
    rfl
  have hrejoin : cycle.store.cell.rejoinCount = s.store.cell.rejoinCount := by
    rw [← hcycle, startCycle, skewEvent_store]
    rfl
  have hrun : cycle.pacing.goodRun = s.pacing.goodRun := by
    rw [← hcycle, startCycle, skewEvent_pacing]
    rfl
  refine ⟨fun hs => ?_, fun a ha hle => ?_⟩
  · rw [accepted, acceptStart, show (arrive t s).pacing.state = .halted from hs]
    rfl
  · intro elapsed good
    have hgood : goodInterval (arrive t s) = true ↔ good := goodInterval_iff (s := arrive t s) ha hle
    have tracked (hs : s.pacing.state = .tracking) (hg : good) :
        exec (.start t index) s = .next (carryCycle id cycle) := by
      have hearly : ¬ sinceAnchor (arrive t s) + us (arrive t s).pacing.tol < us (arrive t s).pacing.period :=
        fun h => absurd ((early_iff (s := arrive t s) ha hle).1 h) (Int.not_lt.2 hg.1)
      rw [accepted, acceptStart, show (arrive t s).pacing.state = .tracking from hs, ← hcycle]
      exact congrArg _ ((if_neg hearly).trans (if_pos (hgood.2 hg)))
    have freewheeled (hs : s.pacing.state = .freewheel) (he : 25 * s.pacing.period ≤ 4 * elapsed) :
        exec (.start t index) s = .next (carryCycle (countGoodRun (goodInterval (arrive t s))) cycle) := by
      have hearly : ¬ 4 * sinceAnchor (arrive t s) < us (arrive t s).pacing.period :=
        fun h => absurd ((veryEarly_iff (s := arrive t s) ha hle).1 h) (Int.not_lt.2 he)
      rw [accepted, acceptStart, show (arrive t s).pacing.state = .freewheel from hs, ← hcycle]
      exact congrArg _ (if_neg hearly)
    refine ⟨fun hs => ⟨fun he => ?_, fun hg hp => ?_, fun hg hp => ?_⟩, fun hs => ⟨fun he => ?_, fun he hp => ?_,
      fun n he hp hn1 hn0 => ⟨fun hlt => ?_, fun hle' => ?_⟩⟩⟩
    · rw [accepted, acceptStart, show (arrive t s).pacing.state = .tracking from hs]
      exact congrArg _ (if_pos ((early_iff (s := arrive t s) ha hle).2 he))
    · rw [tracked hs hg, carryCycle_of_free (hpending.trans hp)]
      rfl
    · rw [tracked hs hg, carryCycle_of_pending (hpending.trans hp)]
    · rw [accepted, acceptStart, show (arrive t s).pacing.state = .freewheel from hs]
      exact congrArg _ (if_pos ((veryEarly_iff (s := arrive t s) ha hle).2 he))
    · rw [freewheeled hs he, carryCycle_of_pending (hpending.trans hp)]
    · rw [freewheeled hs he, carryCycle_of_free (hpending.trans hp),
        countGoodRun_of_lt (fun hg => hrun ▸ hn1 (hgood.1 hg)) (fun hb => hn0 (mt hgood.2 hb)) (hrejoin ▸ hlt)]
      rfl
    · rw [freewheeled hs he, carryCycle_of_free (hpending.trans hp),
        countGoodRun_of_le (fun hg => hrun ▸ hn1 (hgood.1 hg)) (fun hb => hn0 (mt hgood.2 hb)) (hrejoin ▸ hle')]
      rfl

/-- Settles O37: the branches of a silence, a missed cycle and a local cycle-begin. -/
theorem deadlines : Obligations.Deadlines := by
  refine ⟨fun t s => ⟨fun a hs ha => ⟨fun hdue => ?_, fun hnot => ?_⟩, fun hs => ⟨fun hdue => ?_, fun hnot => ?_⟩⟩,
    fun t a s ha hdue => ?_⟩
  · have hfalls : ((advance t s).pacing.state = .acquire ∨ (advance t s).pacing.state = .confirm) ∧
        silenceDue (advance t s) ≤ (advance t s).now := ⟨hs, (silenceDue_eq ha).trans_le hdue⟩
    exact congrArg _ (if_pos hfalls)
  · refine congrArg _ (if_neg fun h => ?_)
    exact absurd ((silenceDue_eq (s := advance t s) ha).symm.trans_le h.2) (Nat.not_le.2 hnot)
  · refine (congrArg _ (if_pos ⟨hs, hdue⟩)).trans ?_
    rw [cycleBegin_eq]
    rfl
  · exact congrArg _ (if_neg fun h => absurd h.2 (Nat.not_le.2 hnot))
  · intro p begin
    have hbegin : missedBegin (advance t s) = begin p := by
      rw [missedBegin, cycleBegin_eq, missDue_eq (s := advance t s) ha]
      rfl
    have hfalls : missDue (advance t s) ≤ (advance t s).now := (missDue_eq (s := advance t s) ha).trans_le hdue
    have tracked (hs : s.pacing.state = .tracking) : exec (.missedCycle t) s =
        .next (if s.pacing.haltPending then enterHalted .haltRequest true (begin p)
          else missedFromTracking (begin p)) := by
      refine congrArg _ ((if_pos hfalls).trans ?_)
      rw [show (advance t s).pacing.state = .tracking from hs, hbegin]
      rfl
    have freewheeled (hs : s.pacing.state = .freewheel) : exec (.missedCycle t) s =
        .next (if s.pacing.haltPending then enterHalted .haltRequest true (begin p)
          else missedInFreewheel (begin p)) := by
      refine congrArg _ ((if_pos hfalls).trans ?_)
      rw [show (advance t s).pacing.state = .freewheel from hs, hbegin]
      rfl
    refine ⟨fun hs hp => ?_, fun hp => ⟨fun hs => ⟨fun hlt => ?_, fun hle => ?_⟩, fun hs => ⟨fun hlt => ?_,
      fun hle => ?_⟩⟩⟩
    · rcases hs with hs | hs
      · rw [tracked hs, if_pos hp]
      · rw [freewheeled hs, if_pos hp]
    · rw [tracked hs, hp]
      exact congrArg _ (if_neg (Nat.not_le.2 hlt))
    · rw [tracked hs, hp]
      exact congrArg _ (if_pos hle)
    · rw [freewheeled hs, hp]
      exact congrArg _ (if_neg (Nat.not_le.2 hlt))
    · rw [freewheeled hs, hp]
      exact congrArg _ (if_pos hle)

end Sys2Proof.Proofs
end

section
/-! SUPPORT. The close of a window and the evaluation of the boot, each as one update of its segment (R136 to R138,
R143 to R145). -/

namespace Sys2Proof.Machine

variable {s t u : State} {g : Seg}

/-! ## What a controller's step may touch -/

/-- A step of one segment's controller: the other segment and everything but segments, stations and reports
stay. -/
structure SegFrame (g : Seg) (s t : State) : Prop where
  rest : t = { s with segs := t.segs, stations := t.stations, report := t.report }
  others : ∀ g', g' ≠ g → t.seg g' = s.seg g'

namespace SegFrame

theorem refl (g : Seg) (s : State) : SegFrame g s s := ⟨rfl, fun _ _ => rfl⟩

theorem trans (h : SegFrame g s t) (h' : SegFrame g t u) : SegFrame g s u := by
  refine ⟨?_, fun g' hg => (h'.others g' hg).trans (h.others g' hg)⟩
  have hu := h'.rest
  rw [h.rest] at hu
  exact hu

theorem setSeg (g : Seg) (x : Segment) (s : State) : SegFrame g s (s.setSeg g x) :=
  ⟨rfl, fun g' hg => by simp [hg]⟩

theorem setSlot (g : Seg) (k : Fin 4) (x : SlotRt) (s : State) : SegFrame g s (s.setSlot g k x) :=
  setSeg g _ s

theorem setReport (g : Seg) (x : Report) (s : State) : SegFrame g s (s.setReport x) := ⟨rfl, fun _ _ => rfl⟩

theorem setInit (g : Seg) (i : Fin 4) (v : InitValues) (s : State) : SegFrame g s (setInit i v s) :=
  ⟨rfl, fun _ _ => rfl⟩

theorem writeEvent (g : Seg) (b : EventBody) (s : State) : SegFrame g s (writeEvent b s) := by
  rw [writeEvent_eq_setReport]
  exact setReport g _ s

theorem latch (g : Seg) (f : Flag) (s : State) : SegFrame g s (latch f s) := setReport g _ s

theorem segChange (g : Seg) (x : SegState) (r : SegReason) (s : State) : SegFrame g s (segChange g x r s) :=
  (setSeg g _ s).trans (writeEvent g _ _)

theorem foldl {α : Type} {f : State → α → State} (hf : ∀ s a, SegFrame g s (f s a)) (l : List α) (s : State) :
    SegFrame g s (l.foldl f s) := by
  induction l generalizing s with
  | nil => exact refl g s
  | cons a l ih => exact (hf s a).trans (ih _)

/-! What a frame keeps. -/

variable (h : SegFrame g s t)
include h

theorem now : t.now = s.now := by rw [h.rest]

theorem store : t.store = s.store := by rw [h.rest]

theorem pacing : t.pacing = s.pacing := by rw [h.rest]

theorem slotRec (g' : Seg) (k : Fin 4) : t.slotRec g' k = s.slotRec g' k := by
  rw [State.slotRec, State.slotRec, h.store]

end SegFrame

/-! ## Bound stations -/

theorem mem_boundStations {i : Fin 4} :
    i ∈ boundStations s.store g ↔ ∃ k, (s.slotRec g k).enabled = true ∧ (s.slotRec g k).station = i := by
  simp [boundStations, enabledSlots, four_eq_finRange, State.slotRec]

theorem withInit_eq (r : StationRec) (v : InitValues) (x : StationRt) : withInit r v x = initTaken r v x := rfl

@[simp] theorem station_setInit (i j : Fin 4) (v : InitValues) (s : State) :
    (setInit i v s).station j = if j = i then initTaken (s.store.stations.get i) v (s.station i) else s.station j :=
  Four.get_set ..

/-- Init values taken in turn: each of the stations takes its own, which taken twice are the same. -/
theorem foldl_setInit_station (f : State → Fin 4 → InitValues) (F : Fin 4 → StationRec → InitValues → InitValues)
    (hf : ∀ s i, f s i = F i (s.store.stations.get i) (s.station i).init)
    (hF : ∀ i r v, F i r (F i r v) = F i r v) (l : List (Fin 4)) (s : State) (j : Fin 4) :
    (l.foldl (fun s i => setInit i (f s i) s) s).station j =
      if j ∈ l then initTaken (s.store.stations.get j) (F j (s.store.stations.get j) (s.station j).init) (s.station j)
      else s.station j := by
  induction l generalizing s with
  | nil => rfl
  | cons i l ih =>
    have hstore : (setInit i (f s i) s).store = s.store := rfl
    rw [List.foldl_cons, ih, hstore, station_setInit, hf]
    by_cases hj : j = i
    · subst hj
      rw [if_pos rfl, if_pos List.mem_cons_self]
      split
      · rw [show (initTaken (s.store.stations.get j) (F j (s.store.stations.get j) (s.station j).init)
          (s.station j)).init = F j (s.store.stations.get j) (s.station j).init from rfl, hF]
        rfl
      · rfl
    · rw [if_neg hj]
      refine if_congr ?_ rfl rfl
      simp [hj]

theorem frame_foldl_setInit (f : State → Fin 4 → InitValues) (l : List (Fin 4)) (s : State) :
    SegFrame g s (l.foldl (fun s i => setInit i (f s i) s) s) :=
  SegFrame.foldl (fun s i => SegFrame.setInit g i (f s i) s) l s

theorem foldl_setInit_report (f : State → Fin 4 → InitValues) (l : List (Fin 4)) (s : State) :
    (l.foldl (fun s i => setInit i (f s i) s) s).report = s.report :=
  foldl_keeps State.report (fun s i => setInit i (f s i) s) (fun _ _ => rfl) l s

/-! ## The evaluation of the boot (R144, R145) -/

theorem bootDone_iff {v : InitValues} : bootDone v = true ↔
    v.identity.isSome = true ∧ v.counts.isSome = true ∧ v.ratedTorque.isSome = true ∧
      v.ratedSpeed.isSome = true ∧ v.mark = .none := by
  simp [bootDone, validInit, and_assoc]

theorem bootDone_noInit (v : InitValues) : bootDone { v with mark := .noInit } = false := by
  simp [bootDone, validInit]

theorem markNoInit_of_marked {v : InitValues} (h : ¬ bootDone v = true) (hm : v.mark = .none) :
    markNoInit v = { v with mark := .noInit } := by simp [markNoInit, h, hm]

theorem markNoInit_of_kept {v : InitValues} (h : bootDone v = true ∨ v.mark = .badInit) : markNoInit v = v := by
  rcases h with h | h <;> simp [markNoInit, h]

theorem markNoInit_idem (v : InitValues) : markNoInit (markNoInit v) = markNoInit v := by
  by_cases h : bootDone v = true ∨ v.mark = .badInit
  · rw [markNoInit_of_kept h, markNoInit_of_kept h]
  · rw [not_or] at h
    simp [markNoInit, h.1, h.2, bootDone_noInit]

theorem markBound_station (g : Seg) (s : State) (j : Fin 4) :
    (markBound g s).station j = if j ∈ boundStations s.store g then
      initTaken (s.store.stations.get j) (markNoInit (s.station j).init) (s.station j) else s.station j :=
  foldl_setInit_station _ (fun _ _ => markNoInit) (fun _ _ => rfl) (fun _ _ => markNoInit_idem) _ s j

theorem frame_markBound (g : Seg) (s : State) : SegFrame g s (markBound g s) :=
  frame_foldl_setInit (fun s i => markNoInit (s.station i).init) _ s

/-- R145: the boot that ends in part. -/
theorem endBoot_of_some (h : ∃ i ∈ boundStations s.store g, bootDone (s.station i).init = true) :
    endBoot g (s.setSeg g { s.seg g with bootCount := (s.seg g).bootCount + 1 }) =
      writeEvent (.segment g .bootPartial) ((markBound g s).setSeg g { s.seg g with
        state := .up, reason := .bootPartial, bootCount := (s.seg g).bootCount + 1 }) := by
  rw [endBoot_eq, if_pos (List.any_eq_true.2 h)]

/-- R145: the boot that fails. -/
theorem endBoot_of_none (h : ∀ i ∈ boundStations s.store g, ¬ bootDone (s.station i).init = true) :
    endBoot g (s.setSeg g { s.seg g with bootCount := (s.seg g).bootCount + 1 }) =
      latch (.segSilent g) (writeEvent (.segment g .bootFailed)
        ((markBound g s).setSeg g (downSegment .bootFailed (s.seg g)))) := by
  rw [endBoot_eq, if_neg]
  rw [List.any_eq_true]
  rintro ⟨i, hi, hdone⟩
  exact h i hi hdone

theorem endBoot_station (g : Seg) (s : State) (j : Fin 4) :
    (endBoot g (s.setSeg g { s.seg g with bootCount := (s.seg g).bootCount + 1 })).station j =
      (markBound g s).station j := by
  rw [endBoot_eq]
  split <;> simp

theorem markBound_report (g : Seg) (s : State) : (markBound g s).report = s.report :=
  foldl_setInit_report (fun s i => markNoInit (s.station i).init) _ s

/-- The record of an event on a boot's end is that on the state before it. -/
theorem writeEvent_markBound_report (g : Seg) (b : EventBody) (x : Segment) (s : State) :
    (writeEvent b ((markBound g s).setSeg g x)).report = (writeEvent b s).report :=
  writeEvent_report_congr b (markBound_report g s) (congrArg Pacing.serial (frame_markBound g s).pacing)

theorem frame_evalBoot (g : Seg) (s : State) : SegFrame g s (evalBoot g s) := by
  cases hall : (boundStations s.store g).all fun i => bootDone (s.station i).init with
  | true =>
    rw [evalBoot_of_complete g hall]
    exact SegFrame.segChange g _ _ s
  | false =>
    rw [evalBoot_of_incomplete g hall]
    split
    · rw [endBoot_eq]
      split
      · exact ((frame_markBound g s).trans (SegFrame.setSeg g _ _)).trans (SegFrame.writeEvent g _ _)
      · exact (((frame_markBound g s).trans (SegFrame.setSeg g _ _)).trans (SegFrame.writeEvent g _ _)).trans
          (SegFrame.latch g _ _)
    · exact SegFrame.setSeg g _ s

/-! ## The close of a window (R136 to R138) -/

theorem setSlot_setSlot (s : State) (g : Seg) (k : Fin 4) (x y : SlotRt) :
    (s.setSlot g k x).setSlot g k y = s.setSlot g k y := by
  have h : ((s.seg g).slots.set k x).set k y = (s.seg g).slots.set k y :=
    Four.ext_get fun j => by by_cases hj : j = k <;> simp [hj]
  simp only [State.setSlot, setSeg_setSeg, seg_setSeg, if_true, h]

/-- R138: a slot whose window has closed with a class. -/
def closedSlot (c : SlotClass) (x : SlotRt) : SlotRt :=
  { x with
    window := none, lastClass := c, errors := if countsError c then min (x.errors + 1) 255 else x.errors }

/-- R138: SLOT_ERROR where a class is an error. -/
def slotErrorMask (g : Seg) (c : SlotClass) : BitVec 18 :=
  if countsError c then BitVec.twoPow 18 (9 + g.num.val) else 0

/-- A segment whose window has closed with a class. -/
def closedSegment (k : Fin 4) (c : SlotClass) (x : Segment) : Segment :=
  { x with
    replySlot := if x.replySlot = some k then none else x.replySlot,
    slots := x.slots.set k (closedSlot c (x.slots.get k)) }

/-- R136, R138: the class of a window recorded, its candidate dropped. -/
def windowClosed (g : Seg) (k : Fin 4) (c : SlotClass) (s : State) : State :=
  (s.setSeg g (closedSegment k c (s.seg g))).setReport
    { s.report with faults := s.report.faults ||| slotErrorMask g c }

theorem recordClass_eq (g : Seg) (k : Fin 4) (c : SlotClass) (s : State) :
    recordClass g k c (s.setSlot g k (noWindow (s.slot g k))) =
      (s.setSlot g k (closedSlot c (s.slot g k))).setReport
        { s.report with faults := s.report.faults ||| slotErrorMask g c } := by
  have hslot : (s.setSlot g k (noWindow (s.slot g k))).slot g k = noWindow (s.slot g k) := by
    rw [slot_setSlot, if_pos ⟨rfl, rfl⟩]
  rw [recordClass, hslot, isSlotError_eq, setSlot_setSlot, setSlot_setSlot, closedSlot, slotErrorMask]
  cases countsError c with
  | true => rfl
  | false => simp only [Bool.false_eq_true, if_false, BitVec.ofNat_eq_ofNat, BitVec.or_zero]; rfl

theorem dropRemainder_recordClass (g : Seg) (k : Fin 4) (c : SlotClass) (s : State) :
    dropRemainder g k (recordClass g k c (s.setSlot g k (noWindow (s.slot g k)))) = windowClosed g k c s := by
  have hseg (r : Report) : ((s.setSlot g k (closedSlot c (s.slot g k))).setReport r).seg g =
      { s.seg g with slots := (s.seg g).slots.set k (closedSlot c (s.slot g k)) } :=
    (seg_setSeg s g g _).trans (if_pos rfl)
  rw [recordClass_eq, dropRemainder, hseg, windowClosed, closedSegment]
  by_cases h : (s.seg g).replySlot = some k
  · rw [if_pos h, if_pos h, State.setSlot]
    exact congrArg (State.setReport · _) (setSeg_setSeg s g _ _)
  · rw [if_neg h, if_neg h]
    rfl

theorem windowClosed_seg (g : Seg) (k : Fin 4) (c : SlotClass) (s : State) :
    (windowClosed g k c s).seg g = closedSegment k c (s.seg g) := (seg_setSeg s g g _).trans (if_pos rfl)

theorem frame_windowClosed (g : Seg) (k : Fin 4) (c : SlotClass) (s : State) : SegFrame g s (windowClosed g k c s) :=
  (SegFrame.setSeg g _ s).trans (SegFrame.setReport g _ _)

/-- The class a window closes with. -/
def closeClass (s : State) (g : Seg) (k : Fin 4) (w : Window) : SlotClass :=
  replyClass (s.seg g).state (s.slotRec g k).address w.page w.candidate

/-- Only a GOOD reply in UP changes a slot's buffer. -/
theorem classifiedSlot_eq_closed {state : SegState} {r : SlotRec} {w : Window} {x : SlotRt}
    (h : state = .up → replyClass state r.address w.page w.candidate ≠ .good) :
    classifiedSlot state r w x = closedSlot (replyClass state r.address w.page w.candidate) x := by
  delta classifiedSlot
  simp only [closedSlot, SlotRt.mk.injEq, true_and, and_true]
  split
  case h_1 hgood => exact absurd hgood (h rfl)
  case h_2 => rfl

theorem classifiedSlot_of_good {r : SlotRec} {w : Window} {x : SlotRt} {chars : List Byte}
    (hc : replyClass .up r.address w.page w.candidate = .good) (hchars : w.candidate = .complete chars) :
    classifiedSlot .up r w x = { closedSlot .good x with buffer := some (measureOf chars w.serial) } := by
  delta classifiedSlot
  rw [hchars] at hc
  simp only [hchars, hc]
  rfl

/-- Only a complete candidate is GOOD. -/
theorem complete_of_good {state : SegState} {address page : Nat} {c : Candidate}
    (h : replyClass state address page c = .good) : ∃ chars, c = .complete chars := by
  cases c with
  | none => cases h
  | arriving => cases h
  | complete chars => exact ⟨chars, rfl⟩

/-- R136, R137: a slot whose window has closed, as the segment's state hands its reply on. -/
def handedSlot (state : SegState) (r : SlotRec) (w : Window) (x : SlotRt) : SlotRt :=
  { closedSlot (replyClass state r.address w.page w.candidate) x with
    buffer := if replyClass state r.address w.page w.candidate = .good ∧ state ≠ .boot then
        some (measureOf w.candidate.chars w.serial)
      else x.buffer }

/-- R136, R137: a segment one of whose windows has closed. -/
def handedSegment (r : SlotRec) (k : Fin 4) (w : Window) (x : Segment) : Segment :=
  { x with
    replySlot := if x.replySlot = some k then none else x.replySlot,
    slots := x.slots.set k (handedSlot x.state r w (x.slots.get k)) }

theorem handedSlot_of_bad {state : SegState} {r : SlotRec} {w : Window} {x : SlotRt}
    (h : replyClass state r.address w.page w.candidate = .good → state = .boot) :
    handedSlot state r w x = closedSlot (replyClass state r.address w.page w.candidate) x := by
  rw [handedSlot, if_neg fun hc => hc.2 (h hc.1)]
  rfl

theorem handedSlot_eq {state : SegState} {r : SlotRec} {w : Window} {x : SlotRt}
    (h : state = .up ∨ state = .boot) : handedSlot state r w x = classifiedSlot state r w x := by
  by_cases hc : state = .up ∧ replyClass state r.address w.page w.candidate = .good
  · obtain ⟨rfl, hgood⟩ := hc
    obtain ⟨chars, hchars⟩ := complete_of_good hgood
    rw [classifiedSlot_of_good hgood hchars, handedSlot, if_pos ⟨hgood, by decide⟩, hgood, hchars]
    rfl
  · rw [not_and] at hc
    rw [classifiedSlot_eq_closed hc, handedSlot_of_bad]
    exact fun hgood => h.resolve_left fun hup => hc hup hgood

theorem handOn_of_open {k : Fin 4} {w : Window} {chars : List Byte} (h : (s.seg g).state ≠ .boot) :
    handOn g k w chars s = s.setSlot g k { s.slot g k with buffer := some (measureOf chars w.serial) } := by
  cases hs : (s.seg g).state with
  | boot => exact absurd hs h
  | down | up | jammed => simp only [handOn, hs]

theorem handOn_of_boot {k : Fin 4} {w : Window} {chars : List Byte} (h : (s.seg g).state = .boot) :
    handOn g k w chars s = setInit (s.slotRec g k).station
      (storePage w.page ((chars.drop 4).take 4) (s.station (s.slotRec g k).station).init) s := by
  rw [handOn, h]

section Close

variable {k : Fin 4} {w : Window} (hw : (s.slot g k).window = some w)
include hw

/-- R136: a class that is not GOOD hands nothing on. -/
theorem closeWindow_of_bad (hc : closeClass s g k w ≠ .good) :
    closeWindow g k s = windowClosed g k (closeClass s g k w) s := by
  simp only [closeWindow, hw, classify_eq, dropRemainder_recordClass]
  split
  case h_1 hgood _ => exact absurd hgood hc
  case h_2 => rfl

/-- R137: a GOOD reply is handed on. -/
theorem closeWindow_of_good {chars : List Byte} (hc : closeClass s g k w = .good)
    (hchars : w.candidate = .complete chars) :
    closeWindow g k s = handOn g k w chars (windowClosed g k .good s) := by
  rw [closeClass, hchars] at hc
  simp only [closeWindow, hw, classify_eq, dropRemainder_recordClass, hchars, hc]

/-- R137: outside BOOT the slot takes what is handed on. -/
theorem closeWindow_of_open (hstate : (s.seg g).state ≠ .boot) :
    closeWindow g k s = (s.setSeg g (handedSegment (s.slotRec g k) k w (s.seg g))).setReport
      { s.report with faults := s.report.faults ||| slotErrorMask g (closeClass s g k w) } := by
  by_cases hc : closeClass s g k w = .good
  · obtain ⟨chars, hchars⟩ := complete_of_good hc
    have hhanded : handedSlot (s.seg g).state (s.slotRec g k) w (s.slot g k) =
        { closedSlot .good (s.slot g k) with buffer := some (measureOf chars w.serial) } := by
      rw [handedSlot, ← closeClass, hc, if_pos ⟨rfl, hstate⟩, hchars]
      rfl
    have hbuffer : (windowClosed g k .good s).slot g k = closedSlot .good (s.slot g k) := by
      rw [State.slot, windowClosed_seg]
      exact (Four.get_set ..).trans (if_pos rfl)
    have hslots : (closedSegment k .good (s.seg g)).slots.set k (handedSlot (s.seg g).state (s.slotRec g k) w
        (s.slot g k)) = (s.seg g).slots.set k (handedSlot (s.seg g).state (s.slotRec g k) w (s.slot g k)) :=
      Four.ext_get fun j => by by_cases hj : j = k <;> simp [closedSegment, hj]
    have hopen : ((windowClosed g k .good s).seg g).state ≠ .boot := by
      rw [windowClosed_seg]
      exact hstate
    rw [closeWindow_of_good hw hc hchars, handOn_of_open hopen, hbuffer, ← hhanded, State.setSlot,
      windowClosed_seg, hslots, hc]
    exact congrArg (State.setReport · _) (setSeg_setSeg s g _ _)
  · rw [closeWindow_of_bad hw hc, handedSegment, handedSlot_of_bad fun h => absurd h hc]
    rfl

/-- R137: in UP the classified slot takes the buffer. -/
theorem closeWindow_of_up (hup : (s.seg g).state = .up) :
    closeWindow g k s = (s.setSeg g { s.seg g with
        replySlot := if (s.seg g).replySlot = some k then none else (s.seg g).replySlot,
        slots := (s.seg g).slots.set k (classifiedSlot (s.seg g).state (s.slotRec g k) w (s.slot g k)) }).setReport
      { s.report with faults := s.report.faults ||| slotErrorMask g (closeClass s g k w) } := by
  rw [closeWindow_of_open hw (by simp [hup]), handedSegment, handedSlot_eq (.inl hup)]
  rfl

/-- R136, R144: at the close of a window in BOOT, the last of the cycle evaluates the boot. -/
theorem windowCloses_of_due (hdue : w.closes ≤ s.now) :
    windowCloses g k s =
      if ((closeWindow g k s).seg g).state = .boot ∧ anyWindow ((closeWindow g k s).seg g) = false then
        evalBoot g (closeWindow g k s)
      else closeWindow g k s := by
  simp only [windowCloses, hw, if_neg (Nat.not_lt.2 hdue), Bool.and_eq_true, decide_eq_true_eq, Bool.not_eq_true']

end Close

theorem anyWindow_eq_false {x : Segment} : anyWindow x = false ↔ ∀ k, (x.slots.get k).window = none := by
  simp [anyWindow, four_eq_finRange]

theorem anyWindow_closedSegment {k : Fin 4} {c : SlotClass} {x : Segment} :
    anyWindow (closedSegment k c x) = false ↔ ∀ j, j ≠ k → (x.slots.get j).window = none := by
  rw [anyWindow_eq_false]
  refine forall_congr' fun j => ?_
  by_cases hj : j = k <;> simp [closedSegment, closedSlot, hj]

/-- A GOOD class leaves the fault register. -/
theorem windowClosed_good (g : Seg) (k : Fin 4) (s : State) :
    windowClosed g k .good s = s.setSeg g (closedSegment k .good (s.seg g)) := by
  have hmask : slotErrorMask g .good = 0 := rfl
  rw [windowClosed, hmask, BitVec.ofNat_eq_ofNat, BitVec.or_zero]
  rfl

/-- R143: a page's value, by its page. -/
theorem storePage_eq {page : Nat} (h : page ≤ 3) (data : List Byte) (v : InitValues) :
    storePage page data v = pageTaken page data v := by
  match page with
  | 0 => rfl
  | 1 => simp [storePage, pageTaken, inRange]
  | 2 => simp [storePage, pageTaken, inRange]
  | 3 => simp [storePage, pageTaken, inRange]

/-- R136: a good INIT reply of the requested page. -/
theorem replyClass_initReply {address page : Nat} {chars : List Byte} (hlen : chars.length = 9)
    (hhead : chars.take 4 = [0x5A, BitVec.ofNat 8 address, 0x02, BitVec.ofNat 8 page])
    (hcrc : chars.getLast? = some (crc8 chars.dropLast)) :
    replyClass .boot address page (.complete chars) = .good := by
  have hchar (j : Nat) (hj : j < 4) : chars[j]? = (chars.take 4)[j]? := (List.getElem?_take_of_lt hj).symm
  have h0 : chars.head? = some 0x5A := by rw [List.head?_eq_getElem?, hchar 0 (by decide), hhead]; rfl
  have h1 : chars[1]? = some (BitVec.ofNat 8 address) := by rw [hchar 1 (by decide), hhead]; rfl
  have h2 : chars[2]? = some 0x02 := by rw [hchar 2 (by decide), hhead]; rfl
  have h3 : chars[3]? = some (BitVec.ofNat 8 page) := by rw [hchar 3 (by decide), hhead]; rfl
  rw [replyClass, if_neg (not_not.2 ⟨h0, hcrc, .inr ⟨h2, hlen⟩⟩), if_neg (not_not.2 h1), if_pos rfl,
    if_pos ⟨h2, h3⟩]

/-- R136: a page handed on in BOOT. -/
theorem closeWindow_of_initReply {k : Fin 4} {w : Window} {chars : List Byte}
    (hw : (s.slot g k).window = some w) (hboot : (s.seg g).state = .boot) (hpage : w.page ≤ 3)
    (hchars : w.candidate = .complete chars) (hc : closeClass s g k w = .good) :
    closeWindow g k s = (s.setSeg g (closedSegment k .good (s.seg g))).setStations
      (s.stations.set (s.slotRec g k).station (initTaken (s.store.stations.get (s.slotRec g k).station)
        (pageTaken w.page ((chars.drop 4).take 4) (s.station (s.slotRec g k).station).init)
        (s.station (s.slotRec g k).station))) := by
  rw [closeWindow_of_good hw hc hchars,
    handOn_of_boot ((congrArg Segment.state (windowClosed_seg g k .good s)).trans hboot), windowClosed_good,
    storePage_eq hpage]
  rfl

end Sys2Proof.Machine
end

section
/-! PROOF. The close of a window, and the evaluation of the boot. -/

namespace Sys2Proof.Proofs

open Sys2Proof.Machine

/-- Settles O43: in UP the classified slot, in BOOT the boot evaluated after the last. -/
theorem windowCloses : Obligations.WindowCloses := by
  intro t g k w s hw hdue x c u
  have closes : exec (.windowClose t g k) s = .next (Machine.windowCloses g k (advance t s)) := rfl
  rw [closes, windowCloses_of_due (s := advance t s) hw hdue]
  refine ⟨fun hup => congrArg _ ?_, fun hboot hc => ?_⟩
  · have hclosed : closeWindow g k (advance t s) = u := closeWindow_of_up (s := advance t s) hw hup
    have hseg : (u.seg g).state = .up := (congrArg Segment.state ((Two.get_set ..).trans (if_pos rfl))).trans hup
    rw [hclosed, if_neg (by simp [hseg])]
  · have hclosed : closeWindow g k (advance t s) = windowClosed g k c (advance t s) :=
      closeWindow_of_bad (s := advance t s) hw hc
    have hu : windowClosed g k c (advance t s) = u := by
      have hslot : classifiedSlot x.state (s.slotRec g k) w (s.slot g k) = closedSlot c (s.slot g k) :=
        classifiedSlot_eq_closed fun _ => hc
      simp only [u, hslot]
      rfl
    have hseg : u.seg g = closedSegment k c (s.seg g) := hu ▸ windowClosed_seg g k c (advance t s)
    rw [hclosed, hu, hseg]
    refine ⟨fun ⟨j, hj, hsome⟩ => congrArg _ ?_, fun hnone => congrArg _ ?_⟩
    · exact if_neg fun h => hsome (anyWindow_closedSegment.1 h.2 j hj)
    · exact if_pos ⟨hboot, anyWindow_closedSegment.2 hnone⟩

/-- Settles O44: the page stored, the boot evaluated after the last window. -/
theorem bootWindowCloses : Obligations.BootWindowCloses := by
  intro t g k w chars s hw hdue hboot hpage hchars hlen hhead hcrc i u
  have closes : exec (.windowClose t g k) s = .next (Machine.windowCloses g k (advance t s)) := rfl
  have hgood : closeClass (advance t s) g k w = .good := by
    rw [closeClass, show ((advance t s).seg g).state = .boot from hboot, hchars]
    exact replyClass_initReply hlen hhead hcrc
  have hclosed : closeWindow g k (advance t s) = u :=
    closeWindow_of_initReply (s := advance t s) hw hboot hpage hchars hgood
  have hseg : u.seg g = closedSegment k .good (s.seg g) := (Two.get_set ..).trans (if_pos rfl)
  rw [closes, windowCloses_of_due (s := advance t s) hw hdue, hclosed, hseg]
  refine ⟨fun ⟨j, hj, hsome⟩ => congrArg _ ?_, fun hnone => congrArg _ ?_⟩
  · exact if_neg fun h => hsome (anyWindow_closedSegment.1 h.2 j hj)
  · exact if_pos ⟨hboot, anyWindow_closedSegment.2 hnone⟩

/-- Settles O45: every bound station complete; else the count, and at 64 the end. -/
theorem bootEvaluated : Obligations.BootEvaluated := by
  intro g s x t bound complete
  have hbound (i : Fin 4) : i ∈ boundStations s.store g ↔ bound i := mem_boundStations
  have hcomplete (i : Fin 4) : bootDone (s.station i).init = true ↔ complete i := bootDone_iff
  refine ⟨fun hall => ?_, fun i hi hnot => ?_⟩
  · exact evalBoot_of_complete g (List.all_eq_true.2 fun i hi => (hcomplete i).2 (hall i ((hbound i).1 hi)))
  · have hnotall : ((boundStations s.store g).all fun i => bootDone (s.station i).init) = false :=
      Bool.eq_false_iff.2 fun h => hnot ((hcomplete i).1 (List.all_eq_true.1 h i ((hbound i).2 hi)))
    have heval := evalBoot_of_incomplete g hnotall
    refine ⟨fun hlt => heval.trans (if_neg (Nat.not_le.2 hlt)), fun hle => ?_⟩
    have hend : t = endBoot g (s.setSeg g { x with bootCount := x.bootCount + 1 }) := heval.trans (if_pos hle)
    have hstation (j : Fin 4) : t.station j = if j ∈ boundStations s.store g then
        initTaken (s.store.stations.get j) (markNoInit (s.station j).init) (s.station j) else s.station j := by
      rw [hend, endBoot_station, markBound_station]
    have hframe : SegFrame g s t := frame_evalBoot g s
    refine ⟨fun ⟨j, hj, hdone⟩ => ?_, fun hnone => ?_, fun j ⟨hj, hnot, hmark⟩ => ?_, fun j hj => ?_, fun j => ?_,
      hframe.others, hframe.rest⟩
    · rw [hend, endBoot_of_some ⟨j, (hbound j).2 hj, (hcomplete j).2 hdone⟩]
      exact ⟨by simp [x], writeEvent_markBound_report g _ _ s⟩
    · rw [hend, endBoot_of_none fun j hj hdone => hnone j ((hbound j).1 hj) ((hcomplete j).1 hdone)]
      refine ⟨by simp [x, downSegment], ?_, ?_⟩
      · rw [latch, State.setReport_report, writeEvent_markBound_report]
        rfl
      · rw [latch_bit]
        simp [flagBit]
    · rw [hstation, if_pos ((hbound j).2 hj)]
      exact markNoInit_of_marked (mt (hcomplete j).1 hnot) hmark
    · rw [hstation]
      split
      case isTrue hmem =>
        refine markNoInit_of_kept (hj.elim (fun hnot => absurd ((hbound j).1 hmem) hnot) ?_)
        exact Or.imp_left (hcomplete j).2
      case isFalse => rfl
    · rw [hstation]
      split <;> rfl

end Sys2Proof.Proofs
end

section
/-! SUPPORT. The first step of a cycle-begin at a segment: the windows of the earlier cycle closed one after
another, each as a move of the segment, and what they hand on (R133, R136 to R138, R143). -/

namespace Sys2Proof.Machine

variable {s t u : State} {g : Seg} {k : Fin 4} {w : Window}

/-! ## A window's close, by what it changes -/

/-- R136, R137, in every state of the segment. -/
theorem closeWindow_seg (hw : (s.slot g k).window = some w) :
    (closeWindow g k s).seg g = handedSegment (s.slotRec g k) k w (s.seg g) := by
  by_cases hboot : (s.seg g).state = .boot
  · have hhanded : handedSegment (s.slotRec g k) k w (s.seg g) = closedSegment k (closeClass s g k w) (s.seg g) := by
      rw [handedSegment, handedSlot_of_bad fun _ => hboot]
      rfl
    rw [hhanded]
    by_cases hc : closeClass s g k w = .good
    · obtain ⟨chars, hchars⟩ := complete_of_good hc
      have hstate := (congrArg Segment.state (windowClosed_seg g k .good s)).trans hboot
      rw [closeWindow_of_good hw hc hchars, handOn_of_boot hstate, hc]
      exact windowClosed_seg g k .good s
    · rw [closeWindow_of_bad hw hc, windowClosed_seg]
  · rw [closeWindow_of_open hw hboot]
    exact (seg_setSeg s g g _).trans (if_pos rfl)

/-- R138: of the reports only the fault register can change. -/
theorem closeWindow_report (hw : (s.slot g k).window = some w) :
    (closeWindow g k s).report =
      { s.report with faults := s.report.faults ||| slotErrorMask g (closeClass s g k w) } := by
  by_cases hc : closeClass s g k w = .good
  · obtain ⟨chars, hchars⟩ := complete_of_good hc
    rw [closeWindow_of_good hw hc hchars, hc, handOn]
    split <;> rfl
  · rw [closeWindow_of_bad hw hc]
    rfl

/-- R143: a station whose page a window does not hand on. -/
theorem closeWindow_station_of_other (hw : (s.slot g k).window = some w) {i : Fin 4}
    (h : (s.seg g).state = .boot → closeClass s g k w = .good → (s.slotRec g k).station ≠ i) :
    (closeWindow g k s).station i = s.station i := by
  by_cases hboot : (s.seg g).state = .boot
  · by_cases hc : closeClass s g k w = .good
    · obtain ⟨chars, hchars⟩ := complete_of_good hc
      have hstate := (congrArg Segment.state (windowClosed_seg g k .good s)).trans hboot
      rw [closeWindow_of_good hw hc hchars, handOn_of_boot hstate, station_setInit, if_neg]
      · rfl
      · exact fun he => h hboot hc he.symm
    · rw [closeWindow_of_bad hw hc]
      rfl
  · rw [closeWindow_of_open hw hboot]
    rfl

theorem frame_closeWindow (hw : (s.slot g k).window = some w) : SegFrame g s (closeWindow g k s) := by
  by_cases hc : closeClass s g k w = .good
  · obtain ⟨chars, hchars⟩ := complete_of_good hc
    rw [closeWindow_of_good hw hc hchars, handOn]
    refine (frame_windowClosed g k .good s).trans ?_
    split
    · exact SegFrame.setInit g _ _ _
    · exact SegFrame.setSlot g _ _ _
  · rw [closeWindow_of_bad hw hc]
    exact frame_windowClosed g k _ s

/-! ## The windows of the earlier cycle (R133) -/

/-- R133: a window that has opened, by now. -/
def Opened (s : State) (g : Seg) (k : Fin 4) (w : Window) : Prop :=
  (s.slot g k).window = some w ∧ (w.isOpen = true ∨ w.opens ≤ s.now)

/-- R133: a segment with the earlier cycle's work in one of its slots ended. -/
def earlySegment (now : Nat) (r : SlotRec) (k : Fin 4) (x : Segment) : Segment :=
  match (x.slots.get k).window with
  | none => x
  | some w =>
    if w.isOpen || decide (w.opens ≤ now) then handedSegment r k w x
    else { x with slots := x.slots.set k { x.slots.get k with window := none, lastClass := .none } }

theorem closeEarly_of_none (hw : (s.slot g k).window = none) : closeEarly g k s = s := by
  simp only [closeEarly, hw]

theorem closeEarly_of_opened (h : Opened s g k w) : closeEarly g k s = closeWindow g k s := by
  obtain ⟨hw, ho⟩ := h
  simp only [closeEarly, hw]
  exact if_pos (by simpa using ho)

theorem closeEarly_of_unopened (hw : (s.slot g k).window = some w) (h : ¬ Opened s g k w) :
    closeEarly g k s = s.setSlot g k { s.slot g k with window := none, lastClass := .none } := by
  simp only [closeEarly, hw]
  refine if_neg fun ho => h ⟨hw, ?_⟩
  simpa using ho

/-- The three cases of a slot at a cycle-begin. -/
theorem window_cases (s : State) (g : Seg) (k : Fin 4) :
    (s.slot g k).window = none ∨ (∃ w, Opened s g k w) ∨
      ∃ w, (s.slot g k).window = some w ∧ ¬ Opened s g k w := by
  cases hw : (s.slot g k).window with
  | none => exact .inl rfl
  | some w =>
    by_cases h : Opened s g k w
    · exact .inr (.inl ⟨w, h⟩)
    · exact .inr (.inr ⟨w, rfl, h⟩)

/-- Closing slot `k` early: what holds of the segment, its slots, the stations and the register afterwards. -/
structure ClosesEarly (g : Seg) (l : List (Fin 4)) (s t : State) : Prop where
  frame : SegFrame g s t
  seg : t.seg g = { s.seg g with replySlot := (t.seg g).replySlot, slots := (t.seg g).slots }
  report : t.report = { s.report with faults := t.report.faults }
  other : ∀ j, j ∉ l → t.slot g j = s.slot g j
  window : ∀ j ∈ l, (t.slot g j).window = none
  idle : ∀ j ∈ l, (s.slot g j).window = none → t.slot g j = s.slot g j
  opened : ∀ j ∈ l, ∀ w, Opened s g j w → t.slot g j = handedSlot (s.seg g).state (s.slotRec g j) w (s.slot g j)
  unopened : ∀ j ∈ l, ∀ w, (s.slot g j).window = some w → ¬ Opened s g j w →
    t.slot g j = { s.slot g j with window := none, lastClass := .none }
  latched : ∀ b, s.report.faults.getLsbD b = true → t.report.faults.getLsbD b = true
  error : ∀ j ∈ l, ∀ w, Opened s g j w → countsError (closeClass s g j w) = true →
    t.report.faults.getLsbD (9 + g.num.val) = true
  clean : (∀ j ∈ l, ∀ w, Opened s g j w → countsError (closeClass s g j w) = false) → t.report = s.report
  station : ∀ i, ((s.seg g).state = .boot → ∀ j ∈ l, ∀ w, Opened s g j w → closeClass s g j w = .good →
    (s.slotRec g j).station ≠ i) → t.station i = s.station i

/-! What closing some slots keeps for the others. -/

namespace ClosesEarly

variable {l : List (Fin 4)} (h : ClosesEarly g l s t)
include h

theorem state : (t.seg g).state = (s.seg g).state := by rw [h.seg]

theorem opened_iff {j : Fin 4} (hj : j ∉ l) : Opened t g j w ↔ Opened s g j w := by
  rw [Opened, Opened, h.other j hj, h.frame.now]

theorem class_eq (j : Fin 4) : closeClass t g j w = closeClass s g j w := by
  rw [closeClass, closeClass, h.state, h.frame.slotRec]

end ClosesEarly

theorem closesEarly_nil : ClosesEarly g [] s s where
  frame := SegFrame.refl g s
  seg := rfl
  report := rfl
  other _ _ := rfl
  window _ hj := by cases hj
  idle _ hj := by cases hj
  opened _ hj := by cases hj
  unopened _ hj := by cases hj
  latched _ h := h
  error _ hj := by cases hj
  clean _ := rfl
  station _ _ := rfl

/-- Slots closed one lot after another, each slot once. -/
theorem ClosesEarly.append {l l' : List (Fin 4)} (h : ClosesEarly g l s t) (h' : ClosesEarly g l' t u)
    (hd : ∀ j ∈ l', j ∉ l) : ClosesEarly g (l ++ l') s u where
  frame := h.frame.trans h'.frame
  seg := by
    have hu := h'.seg
    rw [h.seg] at hu
    exact hu
  report := by
    have hu := h'.report
    rw [h.report] at hu
    exact hu
  other j hj := by
    rw [List.mem_append, not_or] at hj
    rw [h'.other j hj.2, h.other j hj.1]
  window j hj := by
    by_cases hl' : j ∈ l'
    · exact h'.window j hl'
    · rw [h'.other j hl']
      exact h.window j ((List.mem_append.1 hj).resolve_right hl')
  idle j hj hw := by
    by_cases hl' : j ∈ l'
    · have hsame := h.other j (hd j hl')
      rw [h'.idle j hl' (hsame ▸ hw), hsame]
    · rw [h'.other j hl', h.idle j ((List.mem_append.1 hj).resolve_right hl') hw]
  opened j hj w hw := by
    by_cases hl' : j ∈ l'
    · have hl := hd j hl'
      rw [h'.opened j hl' w ((h.opened_iff hl).2 hw), h.state, h.frame.slotRec, h.other j hl]
    · rw [h'.other j hl', h.opened j ((List.mem_append.1 hj).resolve_right hl') w hw]
  unopened j hj w hw hno := by
    by_cases hl' : j ∈ l'
    · have hl := hd j hl'
      rw [h'.unopened j hl' w ((h.other j hl).symm ▸ hw) (mt (h.opened_iff hl).1 hno), h.other j hl]
    · rw [h'.other j hl', h.unopened j ((List.mem_append.1 hj).resolve_right hl') w hw hno]
  latched b hb := h'.latched b (h.latched b hb)
  error j hj w hw hc := by
    rcases List.mem_append.1 hj with hl | hl'
    · exact h'.latched _ (h.error j hl w hw hc)
    · exact h'.error j hl' w ((h.opened_iff (hd j hl')).2 hw) ((h.class_eq j).symm ▸ hc)
  clean hc := by
    have hl := h.clean fun j hj w hw => hc j (List.mem_append_left _ hj) w hw
    rw [← hl]
    refine h'.clean fun j hj w hw => ?_
    rw [h.class_eq]
    exact hc j (List.mem_append_right _ hj) w ((h.opened_iff (hd j hj)).1 hw)
  station i hi := by
    have hl : t.station i = s.station i := h.station i fun hb j hj w hw => hi hb j (List.mem_append_left _ hj) w hw
    rw [← hl]
    refine h'.station i fun hb j hj w hw hc => ?_
    rw [h.frame.slotRec]
    exact hi (h.state ▸ hb) j (List.mem_append_right _ hj) w ((h.opened_iff (hd j hj)).1 hw)
      ((h.class_eq j) ▸ hc)

theorem slot_of_seg {x : Segment} (h : t.seg g = x) (j : Fin 4) : t.slot g j = x.slots.get j :=
  congrArg (fun x => x.slots.get j) h

/-- One slot closed. -/
theorem closesEarly_one (g : Seg) (k : Fin 4) (s : State) : ClosesEarly g [k] s (closeEarly g k s) := by
  rcases window_cases s g k with hnone | ⟨w, ho⟩ | ⟨w, hw, hno⟩
  · rw [closeEarly_of_none hnone]
    exact {
      frame := SegFrame.refl g s, seg := rfl, report := rfl, other := fun _ _ => rfl,
      window := by simpa using hnone,
      idle := fun _ _ _ => rfl,
      opened := by
        intro j hj w ho
        rw [List.mem_singleton.1 hj] at ho
        exact absurd (ho.1.symm.trans hnone) (by simp)
      unopened := by
        intro j hj w hw
        rw [List.mem_singleton.1 hj] at hw
        exact absurd (hw.symm.trans hnone) (by simp)
      latched := fun _ h => h,
      error := by
        intro j hj w ho
        rw [List.mem_singleton.1 hj] at ho
        exact absurd (ho.1.symm.trans hnone) (by simp)
      clean := fun _ => rfl
      station := fun _ _ => rfl }
  · have hw := ho.1
    have hseg := closeWindow_seg hw
    have hreport := closeWindow_report hw
    have honly {v : Window} (hv : Opened s g k v) : v = w := Option.some.inj (hv.1.symm.trans hw)
    rw [closeEarly_of_opened ho]
    exact {
      frame := frame_closeWindow hw
      seg := by rw [hseg]; rfl
      report := by rw [hreport]
      other := by
        intro j hj
        rw [slot_of_seg hseg]
        exact (Four.get_set ..).trans (if_neg (by simpa using hj))
      window := by
        intro j hj
        rw [List.mem_singleton.1 hj, slot_of_seg hseg]
        exact congrArg SlotRt.window ((Four.get_set ..).trans (if_pos rfl))
      idle := by
        intro j hj hnone
        rw [List.mem_singleton.1 hj] at hnone
        exact absurd (hw.symm.trans hnone) (by simp)
      opened := by
        intro j hj v hv
        obtain rfl := List.mem_singleton.1 hj
        rw [honly hv, slot_of_seg hseg]
        exact (Four.get_set ..).trans (if_pos rfl)
      unopened := by
        intro j hj v hv hno
        obtain rfl := List.mem_singleton.1 hj
        rw [Option.some.inj (hv.symm.trans hw)] at hno
        exact absurd ho hno
      latched := by
        intro b hb
        rw [hreport, BitVec.getLsbD_or, hb, Bool.true_or]
      error := by
        intro j hj v hv hc
        obtain rfl := List.mem_singleton.1 hj
        rw [honly hv] at hc
        rw [hreport, slotErrorMask, if_pos hc, BitVec.getLsbD_or, BitVec.getLsbD_twoPow]
        cases g <;> simp [Seg.num]
      clean := by
        intro hc
        rw [hreport, slotErrorMask, hc k List.mem_cons_self w ho]
        simp
      station := by
        intro i hi
        exact closeWindow_station_of_other hw fun hb hc => hi hb k List.mem_cons_self w ho hc }
  · have hseg : (s.setSlot g k { s.slot g k with window := none, lastClass := .none }).seg g =
        { s.seg g with
          slots := (s.seg g).slots.set k { s.slot g k with window := none, lastClass := .none } } :=
      (seg_setSeg s g g _).trans (if_pos rfl)
    rw [closeEarly_of_unopened hw hno]
    exact {
      frame := SegFrame.setSlot g k _ s
      seg := by rw [hseg]
      report := rfl
      other := by
        intro j hj
        rw [slot_of_seg hseg]
        exact (Four.get_set ..).trans (if_neg (by simpa using hj))
      window := by
        intro j hj
        rw [List.mem_singleton.1 hj, slot_of_seg hseg]
        exact congrArg SlotRt.window ((Four.get_set ..).trans (if_pos rfl))
      idle := by
        intro j hj hnone
        rw [List.mem_singleton.1 hj] at hnone
        exact absurd (hw.symm.trans hnone) (by simp)
      opened := by
        intro j hj v hv
        obtain rfl := List.mem_singleton.1 hj
        obtain rfl := Option.some.inj (hv.1.symm.trans hw)
        exact absurd hv hno
      unopened := by
        intro j hj v hv _
        obtain rfl := List.mem_singleton.1 hj
        rw [slot_of_seg hseg]
        exact (Four.get_set ..).trans (if_pos rfl)
      latched := fun _ h => h
      error := by
        intro j hj v hv
        obtain rfl := List.mem_singleton.1 hj
        obtain rfl := Option.some.inj (hv.1.symm.trans hw)
        exact absurd hv hno
      clean := fun _ => rfl
      station := fun _ _ => rfl }

theorem closesEarly_foldl {l : List (Fin 4)} (hl : l.Nodup) (s : State) :
    ClosesEarly g l s (l.foldl (fun s k => closeEarly g k s) s) := by
  induction l generalizing s with
  | nil => exact closesEarly_nil
  | cons k l ih =>
    obtain ⟨hk, hl⟩ := List.nodup_cons.1 hl
    refine (closesEarly_one g k s).append (ih hl _) fun j hj hk' => ?_
    rw [List.mem_singleton] at hk'
    exact hk (hk' ▸ hj)

/-- R143: a page handed on by one window alone, of those that close. -/
theorem foldl_closeEarly_taken {l : List (Fin 4)} (hl : l.Nodup) {chars : List Byte} (hk : k ∈ l)
    (hboot : (s.seg g).state = .boot) (ho : Opened s g k w) (hpage : w.page ≤ 3)
    (hchars : w.candidate = .complete chars) (hc : closeClass s g k w = .good)
    (hothers : ∀ j v, j ≠ k → (s.slot g j).window = some v → (s.slotRec g j).station ≠ (s.slotRec g k).station) :
    (l.foldl (fun s k => closeEarly g k s) s).station (s.slotRec g k).station =
      initTaken (s.store.stations.get (s.slotRec g k).station)
        (pageTaken w.page ((chars.drop 4).take 4) (s.station (s.slotRec g k).station).init)
        (s.station (s.slotRec g k).station) := by
  obtain ⟨before, after, rfl⟩ := List.append_of_mem hk
  obtain ⟨hbefore, hafter, hdisjoint⟩ := List.nodup_append.1 hl
  have hkbefore : k ∉ before := fun h => hdisjoint k h k List.mem_cons_self rfl
  obtain ⟨hkafter, hafter⟩ := List.nodup_cons.1 hafter
  rw [List.foldl_append, List.foldl_cons]
  have hs1 := closesEarly_foldl (g := g) hbefore s
  generalize before.foldl (fun s k => closeEarly g k s) s = s1 at hs1 ⊢
  have ho1 : Opened s1 g k w := (hs1.opened_iff hkbefore).2 ho
  have hs2 := hs1.append (closesEarly_one g k s1) (by simpa using hkbefore)
  have hs3 := closesEarly_foldl (g := g) hafter (closeEarly g k s1)
  have hboot1 : (s1.seg g).state = .boot := hs1.state.trans hboot
  have hstation1 : s1.station (s.slotRec g k).station = s.station (s.slotRec g k).station :=
    hs1.station _ fun _ j hj v hv _ => hothers j v (fun he => hkbefore (he ▸ hj)) hv.1
  have hstation2 : (closeEarly g k s1).station (s.slotRec g k).station =
      initTaken (s.store.stations.get (s.slotRec g k).station)
        (pageTaken w.page ((chars.drop 4).take 4) (s.station (s.slotRec g k).station).init)
        (s.station (s.slotRec g k).station) := by
    rw [closeEarly_of_opened ho1, closeWindow_of_initReply ho1.1 hboot1 hpage hchars (by rw [hs1.class_eq, hc]),
      hs1.frame.slotRec, hs1.frame.store, hstation1]
    exact (Four.get_set ..).trans (if_pos rfl)
  rw [← hstation2]
  refine hs3.station _ fun _ j hj v hv _ => ?_
  have hjk : j ≠ k := fun he => hkafter (he ▸ hj)
  have hjl : j ∉ before ++ [k] := by
    rw [List.mem_append, List.mem_singleton, not_or]
    exact ⟨fun h => hdisjoint j h j (List.mem_cons_of_mem _ hj) rfl, hjk⟩
  rw [hs2.frame.slotRec]
  exact hothers j v hjk ((hs2.opened_iff hjl).1 hv).1

/-! ## The evaluation of the boot, for a segment whose windows are closed -/

theorem setSeg_self (s : State) (g : Seg) : s.setSeg g (s.seg g) = s := by
  have h : s.segs.set g.num (s.segs.get g.num) = s.segs :=
    Two.ext_get fun k => by by_cases hk : k = g.num <;> simp [hk]
  rw [State.setSeg, State.seg, h]
  rfl

/-- R144, R145: where the evaluation of the boot leaves the segment. -/
theorem evalBoot_seg_cases (g : Seg) (s : State) :
    (evalBoot g s).seg g = { s.seg g with state := .up, reason := .bootComplete } ∨
    (evalBoot g s).seg g = { s.seg g with bootCount := (s.seg g).bootCount + 1 } ∨
    (evalBoot g s).seg g =
      { s.seg g with state := .up, reason := .bootPartial, bootCount := (s.seg g).bootCount + 1 } ∨
    (evalBoot g s).seg g = downSegment .bootFailed (s.seg g) := by
  cases hall : (boundStations s.store g).all fun i => bootDone (s.station i).init with
  | true =>
    rw [evalBoot_of_complete g hall, segChange, writeEvent_seg, seg_setSeg, if_pos rfl]
    exact .inl rfl
  | false =>
    rw [evalBoot_of_incomplete g hall]
    split
    · rw [endBoot_eq]
      split
      · refine .inr (.inr (.inl ?_))
        rw [writeEvent_seg, seg_setSeg, if_pos rfl]
      · refine .inr (.inr (.inr ?_))
        rw [latch_seg, writeEvent_seg, seg_setSeg, if_pos rfl]
    · rw [seg_setSeg, if_pos rfl]
      exact .inr (.inl rfl)

/-- What the evaluation keeps of a segment with no SYNC scheduled and no window. -/
theorem evalBoot_seg_rest (hsync : (s.seg g).pendingSync = none) (hw : ∀ j, (s.slot g j).window = none) :
    ((evalBoot g s).seg g).pendingSync = none ∧ ((evalBoot g s).seg g).slots = (s.seg g).slots := by
  have hslots : (Four.tabulate fun j => { (s.seg g).slots.get j with window := none }) = (s.seg g).slots :=
    Four.ext_get fun j => by
      rw [Four.get_tabulate, ← show (s.slot g j).window = none from hw j]
      rfl
  rcases evalBoot_seg_cases g s with h | h | h | h <;> rw [h]
  · exact ⟨hsync, rfl⟩
  · exact ⟨hsync, rfl⟩
  · exact ⟨hsync, rfl⟩
  · exact ⟨rfl, hslots⟩

theorem writeEvent_latched (b : EventBody) (n : Nat) (h : s.report.faults.getLsbD n = true) :
    (writeEvent b s).report.faults.getLsbD n = true := by
  simp only [writeEvent]
  split
  · exact h
  · rw [latch_bit]
    simp only [State.setReport_report, h, Bool.true_or]

theorem evalBoot_latched (g : Seg) (n : Nat) (h : s.report.faults.getLsbD n = true) :
    (evalBoot g s).report.faults.getLsbD n = true := by
  have hmark (x : Segment) : ((markBound g s).setSeg g x).report.faults.getLsbD n = true := by
    rw [State.setSeg_report, markBound_report]
    exact h
  cases hall : (boundStations s.store g).all fun i => bootDone (s.station i).init with
  | true =>
    rw [evalBoot_of_complete g hall, segChange]
    exact writeEvent_latched _ n h
  | false =>
    rw [evalBoot_of_incomplete g hall]
    split
    · rw [endBoot_eq]
      split
      · exact writeEvent_latched _ n (hmark _)
      · rw [latch_bit, writeEvent_latched _ n (hmark _), Bool.true_or]
    · exact h

/-! ## The first step of a cycle-begin -/

/-- R133: the windows closed, the SYNC cancelled. -/
def windowsEnded (g : Seg) (s : State) : State :=
  four.foldl (fun s k => closeEarly g k s) (s.setSeg g { s.seg g with pendingSync := none })

theorem closeEarlierCycle_eq (g : Seg) (s : State) :
    closeEarlierCycle g s =
      if anyWindow (s.seg g) = true ∧ ((windowsEnded g s).seg g).state = .boot then evalBoot g (windowsEnded g s)
      else windowsEnded g s := by
  unfold closeEarlierCycle
  refine if_congr ?_ rfl rfl
  rw [Bool.and_eq_true, decide_eq_true_eq]
  rfl

theorem windowsEnded_spec (g : Seg) (s : State) :
    ClosesEarly g four (s.setSeg g { s.seg g with pendingSync := none }) (windowsEnded g s) :=
  closesEarly_foldl (by decide) _

theorem mem_four (k : Fin 4) : k ∈ four := by simp [four_eq_finRange]

/-- Cancelling the SYNC leaves the slots. -/
theorem slot_cancelled (g : Seg) (s : State) (k : Fin 4) :
    (s.setSeg g { s.seg g with pendingSync := none }).slot g k = s.slot g k :=
  slot_of_seg ((seg_setSeg s g g _).trans (if_pos rfl)) k

theorem opened_cancelled : Opened (s.setSeg g { s.seg g with pendingSync := none }) g k w ↔ Opened s g k w := by
  rw [Opened, slot_cancelled]
  rfl

theorem closeClass_cancelled :
    closeClass (s.setSeg g { s.seg g with pendingSync := none }) g k w = closeClass s g k w := by
  rw [closeClass, seg_setSeg, if_pos rfl]
  rfl

theorem windowsEnded_of_none (h : ∀ k, (s.slot g k).window = none) :
    windowsEnded g s = s.setSeg g { s.seg g with pendingSync := none } := by
  have hid (k : Fin 4) : closeEarly g k (s.setSeg g { s.seg g with pendingSync := none }) =
      s.setSeg g { s.seg g with pendingSync := none } := closeEarly_of_none ((slot_cancelled g s k).symm ▸ h k)
  simp only [windowsEnded, four, List.foldl_cons, List.foldl_nil, hid]

/-- R133: without a window only the SYNC is cancelled, and nothing is evaluated. -/
theorem closeEarlierCycle_of_none (h : ∀ k, (s.slot g k).window = none) :
    closeEarlierCycle g s = s.setSeg g { s.seg g with pendingSync := none } := by
  rw [closeEarlierCycle_eq, anyWindow_eq_false.2 h, if_neg (by simp), windowsEnded_of_none h]

theorem windowsEnded_state (g : Seg) (s : State) : ((windowsEnded g s).seg g).state = (s.seg g).state := by
  rw [(windowsEnded_spec g s).state, seg_setSeg, if_pos rfl]

theorem frame_windowsEnded (g : Seg) (s : State) : SegFrame g s (windowsEnded g s) :=
  (SegFrame.setSeg g _ s).trans (windowsEnded_spec g s).frame

theorem windowsEnded_seg (g : Seg) (s : State) : (windowsEnded g s).seg g = { s.seg g with
    pendingSync := none, replySlot := ((windowsEnded g s).seg g).replySlot,
    slots := ((windowsEnded g s).seg g).slots } := by
  have h := (windowsEnded_spec g s).seg
  rw [seg_setSeg, if_pos rfl] at h
  exact h

theorem windowsEnded_window (g : Seg) (s : State) (k : Fin 4) : ((windowsEnded g s).slot g k).window = none :=
  (windowsEnded_spec g s).window k (mem_four k)

/-- R133: in a state other than BOOT nothing is evaluated. -/
theorem closeEarlierCycle_of_open (h : (s.seg g).state ≠ .boot) : closeEarlierCycle g s = windowsEnded g s := by
  rw [closeEarlierCycle_eq, windowsEnded_state, if_neg fun hb => h hb.2]

/-- R144: in BOOT a window closed has the boot evaluated. -/
theorem closeEarlierCycle_of_boot (h : (s.seg g).state = .boot) (hw : (s.slot g k).window = some w) :
    closeEarlierCycle g s = evalBoot g (windowsEnded g s) := by
  have hany : anyWindow (s.seg g) = true := by
    by_contra hno
    rw [Bool.not_eq_true, anyWindow_eq_false] at hno
    exact absurd ((hno k).symm.trans hw) (by simp)
  rw [closeEarlierCycle_eq, windowsEnded_state, if_pos ⟨hany, h⟩]

/-- The slots are those of the windows' closing. -/
theorem closeEarlierCycle_rest (g : Seg) (s : State) :
    ((closeEarlierCycle g s).seg g).pendingSync = none ∧
      ((closeEarlierCycle g s).seg g).slots = ((windowsEnded g s).seg g).slots := by
  have hsync : ((windowsEnded g s).seg g).pendingSync = none := by rw [windowsEnded_seg]
  rw [closeEarlierCycle_eq]
  split
  · exact evalBoot_seg_rest hsync (windowsEnded_window g s)
  · exact ⟨hsync, rfl⟩

theorem frame_closeEarlierCycle (g : Seg) (s : State) : SegFrame g s (closeEarlierCycle g s) := by
  rw [closeEarlierCycle_eq]
  split
  · exact (frame_windowsEnded g s).trans (frame_evalBoot g _)
  · exact frame_windowsEnded g s

theorem closeEarlierCycle_slot (g : Seg) (s : State) (k : Fin 4) :
    (closeEarlierCycle g s).slot g k = (windowsEnded g s).slot g k :=
  congrArg (Four.get · k) (closeEarlierCycle_rest g s).2

theorem closeEarlierCycle_latched (g : Seg) (n : Nat)
    (h : (windowsEnded g s).report.faults.getLsbD n = true) :
    (closeEarlierCycle g s).report.faults.getLsbD n = true := by
  rw [closeEarlierCycle_eq]
  split
  · exact evalBoot_latched g n h
  · exact h

/-- R133: the earlier cycle's work is ended once. -/
theorem segCycleBegin_closeEarlierCycle (g : Seg) (s : State) :
    segCycleBegin g (closeEarlierCycle g s) = segCycleBegin g s := by
  have hwindow (k : Fin 4) : ((closeEarlierCycle g s).slot g k).window = none := by
    rw [closeEarlierCycle_slot]
    exact windowsEnded_window g s k
  have hsync := (closeEarlierCycle_rest g s).1
  generalize hu : closeEarlierCycle g s = u at hwindow hsync
  have hsame : closeEarlierCycle g u = u := by
    rw [closeEarlierCycle_of_none hwindow, ← hsync]
    exact setSeg_self u g
  rw [segCycleBegin, segCycleBegin, hsame, hu]

end Sys2Proof.Machine
end

section
/-! PROOF. The first step of a cycle-begin at a segment. -/

namespace Sys2Proof.Proofs

open Sys2Proof.Machine

/-- Settles O39: the windows closed one by one, the boot evaluated after them. -/
theorem earlierCycleClosed : Obligations.EarlierCycleClosed := by
  intro g s t opened cls
  have hspec := windowsEnded_spec g s
  have hstate0 : ((s.setSeg g { s.seg g with pendingSync := none }).seg g).state = (s.seg g).state := by
    rw [seg_setSeg, if_pos rfl]
  have hframe := frame_closeEarlierCycle g s
  refine ⟨(segCycleBegin_closeEarlierCycle g s).symm, (closeEarlierCycle_rest g s).1, fun k => ?_, hframe.others,
    hframe.rest, closeEarlierCycle_of_none, fun hstate => ⟨fun k hw => ?_, fun k w ho => ⟨?_, fun hc => ?_⟩,
      fun k w hw hno => ?_⟩, fun hup => ?_, fun hboot ⟨k, w, hw⟩ => ?_⟩
  · exact (closeEarlierCycle_slot g s k).symm ▸ windowsEnded_window g s k
  · rw [closeEarlierCycle_slot, hspec.idle k (mem_four k) ((slot_cancelled g s k).symm ▸ hw), slot_cancelled]
  · rw [closeEarlierCycle_slot, hspec.opened k (mem_four k) w (opened_cancelled.2 ho), hstate0, slot_cancelled,
      handedSlot_eq hstate]
    rfl
  · exact closeEarlierCycle_latched g _ (hspec.error k (mem_four k) w (opened_cancelled.2 ho)
      (closeClass_cancelled.symm ▸ hc))
  · rw [closeEarlierCycle_slot, hspec.unopened k (mem_four k) w ((slot_cancelled g s k).symm ▸ hw)
      (mt opened_cancelled.1 hno), slot_cancelled]
  · have hnot : (s.seg g).state ≠ .boot := by simp [hup]
    have ht : t = windowsEnded g s := closeEarlierCycle_of_open hnot
    rw [ht]
    refine ⟨Four.ext_get fun i => ?_, hspec.report, fun hclean => ?_, windowsEnded_seg g s⟩
    · exact hspec.station i fun hb => absurd (hstate0.symm.trans hb) hnot
    · exact hspec.clean fun k _ w ho => closeClass_cancelled.symm ▸ hclean k w (opened_cancelled.1 ho)
  · have hseg := windowsEnded_seg g s
    refine ⟨windowsEnded g s, closeEarlierCycle_of_boot hboot hw, (windowsEnded_state g s).trans hboot, ?_,
      (frame_windowsEnded g s).rest, hspec.report, fun k w chars ho hpage hchars hc hothers => ?_, fun i hi => ?_⟩
    · rw [hseg]
    · exact foldl_closeEarly_taken (by decide) (mem_four k) (hstate0.trans hboot) (opened_cancelled.2 ho) hpage
        hchars (closeClass_cancelled.symm ▸ hc) fun j v hj hv => hothers j v hj (slot_cancelled g s j ▸ hv)
    · exact hspec.station i fun _ k _ w ho hc => hi k w (opened_cancelled.1 ho) (closeClass_cancelled.symm.trans hc)

end Sys2Proof.Proofs
end

section
/-! SUPPORT. A segment leaving DOWN, the schedule of its SYNC, and what an event of the Pacing Unit does to the two
segments (R130, R140 to R142, R146, R151). -/

namespace Sys2Proof.Machine

variable {s t u : State} {g : Seg} {k : Fin 4}

/-! ## Leaving DOWN (R140 to R142) -/

/-- R141, R142: every bound station takes the init values its record gives. -/
def initBound (g : Seg) (F : StationRec → InitValues) (s : State) : State :=
  (boundStations s.store g).foldl (fun s i => setInit i (F (s.store.stations.get i)) s) s

theorem initBound_station (g : Seg) (F : StationRec → InitValues) (s : State) (i : Fin 4) :
    (initBound g F s).station i = if i ∈ boundStations s.store g then
      initTaken (s.store.stations.get i) (F (s.store.stations.get i)) (s.station i) else s.station i :=
  foldl_setInit_station (fun s i => F (s.store.stations.get i)) (fun _ r _ => F r) (fun _ _ => rfl)
    (fun _ _ _ => rfl) _ s i

theorem initBound_seg (g g' : Seg) (F : StationRec → InitValues) (s : State) :
    (initBound g F s).seg g' = s.seg g' :=
  congrArg (Two.get · g'.num) (foldl_setInit_segs (fun s i => F (s.store.stations.get i)) _ s)

theorem initBound_report (g : Seg) (F : StationRec → InitValues) (s : State) :
    (initBound g F s).report = s.report :=
  foldl_setInit_report (fun s i => F (s.store.stations.get i)) _ s

theorem frame_initBound (g : Seg) (F : StationRec → InitValues) (s : State) : SegFrame g s (initBound g F s) :=
  frame_foldl_setInit (fun s i => F (s.store.stations.get i)) _ s

/-- R140, R151: the segment that has left DOWN, its event, its stations. -/
def leftDown (g : Seg) (state : SegState) (r : SegReason) (F : StationRec → InitValues) (x : Segment) (s : State) :
    State :=
  segChange g state r (initBound g F (s.setSeg g x))

section LeftDown

variable (g : Seg) (state : SegState) (r : SegReason) (F : StationRec → InitValues) (x : Segment) (s : State)

theorem leftDown_seg : (leftDown g state r F x s).seg g = { x with state := state, reason := r } := by
  rw [leftDown, segChange, writeEvent_seg, seg_setSeg, if_pos rfl, initBound_seg, seg_setSeg, if_pos rfl]

theorem frame_leftDown : SegFrame g s (leftDown g state r F x s) :=
  ((SegFrame.setSeg g x s).trans (frame_initBound g F _)).trans (SegFrame.segChange g state r _)

theorem leftDown_report : (leftDown g state r F x s).report = (writeEvent (.segment g r) s).report :=
  writeEvent_report_congr _ (initBound_report g F _) (congrArg Pacing.serial (frame_initBound g F _).pacing)

theorem leftDown_station (i : Fin 4) : (leftDown g state r F x s).station i =
    if i ∈ boundStations s.store g then
      initTaken (s.store.stations.get i) (F (s.store.stations.get i)) (s.station i) else s.station i := by
  rw [leftDown, segChange, writeEvent_station]
  exact initBound_station g F (s.setSeg g x) i

end LeftDown

theorem mayLeaveDown_iff : mayLeaveDown g s = true ↔
    (s.seg g).state = .down ∧ (s.pacing.state = .tracking ∨ s.pacing.state = .freewheel) ∧
      (∃ k, (s.slotRec g k).enabled = true) ∧ s.report.faults.getLsbD (7 + g.num.val) = false := by
  have hslots : (enabledSlots s.store g).isEmpty = false ↔ ∃ k, (s.slotRec g k).enabled = true := by
    rw [Bool.eq_false_iff, ne_eq, List.isEmpty_iff, List.eq_nil_iff_forall_not_mem]
    simp [enabledSlots, four_eq_finRange, State.slotRec]
  rw [mayLeaveDown, Bool.and_eq_true, Bool.and_eq_true, Bool.and_eq_true, Bool.or_eq_true, decide_eq_true_eq,
    decide_eq_true_eq, decide_eq_true_eq, Bool.not_eq_true', Bool.not_eq_true', hslots, and_assoc, and_assoc]
  rfl

/-- R142: a boot begins. -/
theorem leaveDown_of_boot (h : mayLeaveDown g s = true) (hskip : s.store.cell.bootSkip.get g.num = false) :
    leaveDown g s =
      leftDown g .boot .bootStarted (fun _ => InitValues.clear) { s.seg g with bootCount := 0 } s := by
  rw [leaveDown, if_pos h, hskip]
  rfl

/-- R141: a boot is skipped. -/
theorem leaveDown_of_skip (h : mayLeaveDown g s = true) (hskip : s.store.cell.bootSkip.get g.num = true) :
    leaveDown g s = leftDown g .up .bootSkipped fallbackInit (s.seg g) s := by
  rw [leaveDown, if_pos h, hskip, leftDown, setSeg_self]
  rfl

theorem leaveDown_of_not (h : ¬ mayLeaveDown g s = true) : leaveDown g s = s := if_neg h

theorem frame_leaveDown (g : Seg) (s : State) : SegFrame g s (leaveDown g s) := by
  by_cases h : mayLeaveDown g s = true
  · cases hskip : s.store.cell.bootSkip.get g.num with
    | true =>
      rw [leaveDown_of_skip h hskip]
      exact frame_leftDown ..
    | false =>
      rw [leaveDown_of_boot h hskip]
      exact frame_leftDown ..
  · rw [leaveDown_of_not h]
    exact SegFrame.refl g s

/-! ## The schedule of the SYNC (R130) -/

/-- R130: the SYNC a cycle-begin schedules. -/
def cycleSync (g : Seg) (s : State) : PendingSync :=
  { due := s.pacing.anchor.getD s.now + us (s.store.cell.delay.get g.num), index := s.pacing.index,
    serial := s.pacing.serial }

theorem scheduleSync_of_running (h : (s.seg g).state = .boot ∨ (s.seg g).state = .up) :
    scheduleSync g s = s.setSeg g { s.seg g with pendingSync := some (cycleSync g s) } := if_pos h

theorem scheduleSync_of_rest (h : ¬ ((s.seg g).state = .boot ∨ (s.seg g).state = .up)) :
    scheduleSync g s = s := if_neg h

theorem frame_scheduleSync (g : Seg) (s : State) : SegFrame g s (scheduleSync g s) := by
  by_cases h : (s.seg g).state = .boot ∨ (s.seg g).state = .up
  · rw [scheduleSync_of_running h]
    exact SegFrame.setSeg g _ s
  · rw [scheduleSync_of_rest h]
    exact SegFrame.refl g s

theorem frame_segCycleBegin (g : Seg) (s : State) : SegFrame g s (segCycleBegin g s) :=
  ((frame_closeEarlierCycle g s).trans (frame_leaveDown g _)).trans (frame_scheduleSync g _)

theorem SegFrame.cycleSync_eq (h : SegFrame g s t) (g' : Seg) : cycleSync g' t = cycleSync g' s := by
  rw [cycleSync, cycleSync, h.pacing, h.now, h.store]

theorem scheduleSync_station (i : Fin 4) : (scheduleSync g s).station i = s.station i := by
  unfold scheduleSync
  dsimp only
  split <;> rfl

theorem scheduleSync_report : (scheduleSync g s).report = s.report := by
  unfold scheduleSync
  dsimp only
  split <;> rfl

/-! ## The segment alone, through the first step of a cycle-begin -/

theorem closeEarly_seg (g : Seg) (k : Fin 4) (s : State) :
    (closeEarly g k s).seg g = earlySegment s.now (s.slotRec g k) k (s.seg g) := by
  rw [earlySegment]
  rcases window_cases s g k with hnone | ⟨w, ho⟩ | ⟨w, hw, hno⟩
  · rw [closeEarly_of_none hnone, show ((s.seg g).slots.get k).window = none from hnone]
  · have hopen : (w.isOpen || decide (w.opens ≤ s.now)) = true := by simpa using ho.2
    rw [closeEarly_of_opened ho, closeWindow_seg ho.1, show ((s.seg g).slots.get k).window = some w from ho.1]
    exact (if_pos hopen).symm
  · have hclosed : ¬ (w.isOpen || decide (w.opens ≤ s.now)) = true := fun h => hno ⟨hw, by simpa using h⟩
    rw [closeEarly_of_unopened hw hno, show ((s.seg g).slots.get k).window = some w from hw]
    exact ((seg_setSeg s g g _).trans (if_pos rfl)).trans (if_neg hclosed).symm

theorem foldl_closeEarly_seg (g : Seg) (l : List (Fin 4)) (s : State) :
    (l.foldl (fun s k => closeEarly g k s) s).seg g =
      l.foldl (fun x k => earlySegment s.now (s.slotRec g k) k x) (s.seg g) := by
  induction l generalizing s with
  | nil => rfl
  | cons k l ih =>
    have hframe := (closesEarly_one g k s).frame
    rw [List.foldl_cons, List.foldl_cons, ih, hframe.now, closeEarly_seg]
    simp only [hframe.slotRec]

/-- The segment after its windows' closing depends on the time, the slot records and the segment before. -/
theorem windowsEnded_seg_congr (hnow : u.now = s.now) (hstore : u.store = s.store) (hseg : u.seg g = s.seg g) :
    (windowsEnded g u).seg g = (windowsEnded g s).seg g := by
  rw [windowsEnded, windowsEnded, foldl_closeEarly_seg, foldl_closeEarly_seg]
  simp only [seg_setSeg, if_true, hseg, State.slotRec, State.setSeg_store, hstore, State.setSeg_now, hnow]

theorem scheduleSync_seg_congr (hnow : u.now = s.now) (hstore : u.store = s.store)
    (hpacing : u.pacing = s.pacing) (hseg : u.seg g = s.seg g) :
    (scheduleSync g u).seg g = (scheduleSync g s).seg g := by
  have hsync : cycleSync g u = cycleSync g s := by rw [cycleSync, cycleSync, hnow, hstore, hpacing]
  by_cases h : (s.seg g).state = .boot ∨ (s.seg g).state = .up
  · rw [scheduleSync_of_running h, scheduleSync_of_running (hseg ▸ h), hseg, hsync, seg_setSeg, seg_setSeg,
      if_pos rfl, if_pos rfl]
  · rw [scheduleSync_of_rest h, scheduleSync_of_rest (hseg ▸ h), hseg]

/-! ## A cycle-begin in HALTED (R140, R146) -/

/-- R140: in HALTED no segment leaves DOWN. -/
theorem segCycleBegin_of_halted (hp : s.pacing.state = .halted) :
    segCycleBegin g s = scheduleSync g (closeEarlierCycle g s) := by
  rw [segCycleBegin, leaveDown_of_not]
  rw [mayLeaveDown_iff, (frame_closeEarlierCycle g s).pacing, hp]
  rintro ⟨-, hstate | hstate, -⟩ <;> cases hstate

/-- A segment that is not in BOOT takes its own steps alone. -/
theorem segCycleBegin_seg_congr (hp : s.pacing.state = .halted) (hnow : u.now = s.now) (hstore : u.store = s.store)
    (hpacing : u.pacing = s.pacing) (hseg : u.seg g = s.seg g) (hboot : (s.seg g).state ≠ .boot) :
    (segCycleBegin g u).seg g = (segCycleBegin g s).seg g := by
  have hfs := frame_windowsEnded g s
  have hfu := frame_windowsEnded g u
  rw [segCycleBegin_of_halted hp, segCycleBegin_of_halted (hpacing ▸ hp), closeEarlierCycle_of_open hboot,
    closeEarlierCycle_of_open (hseg.symm ▸ hboot)]
  exact scheduleSync_seg_congr (by rw [hfu.now, hfs.now, hnow]) (by rw [hfu.store, hfs.store, hstore])
    (by rw [hfu.pacing, hfs.pacing, hpacing]) (windowsEnded_seg_congr hnow hstore hseg)

/-- A segment in BOOT that a cycle-begin leaves in DOWN has failed its boot. -/
theorem closeEarlierCycle_seg_of_down (hboot : (s.seg g).state = .boot)
    (hdown : ((closeEarlierCycle g s).seg g).state = .down) :
    (closeEarlierCycle g s).seg g = downSegment .bootFailed ((windowsEnded g s).seg g) := by
  have hstate : ((windowsEnded g s).seg g).state = .boot := (windowsEnded_state g s).trans hboot
  rw [closeEarlierCycle_eq] at hdown ⊢
  split at hdown
  case isTrue h =>
    rw [if_pos h]
    rcases evalBoot_seg_cases g (windowsEnded g s) with he | he | he | he
    · rw [he] at hdown; cases hdown
    · rw [he, hstate] at hdown; cases hdown
    · rw [he] at hdown; cases hdown
    · exact he
  case isFalse => rw [hstate] at hdown; cases hdown

theorem segHalt_of_boot (h : (s.seg g).state = .boot) :
    segHalt g s = writeEvent (.segment g .halt) (s.setSeg g (downSegment .halt (s.seg g))) := by
  rw [segHalt, if_pos h, haltDown, segChange_goDown]

theorem segHalt_of_open (h : (s.seg g).state ≠ .boot) : segHalt g s = s := if_neg h

/-- R146: the entry to HALTED first, then the cycle-begin. -/
theorem segCycleBegin_segHalt (hp : s.pacing.state = .halted) (hboot : (s.seg g).state = .boot) :
    (segCycleBegin g (segHalt g s)).seg g = downSegment .halt (s.seg g) := by
  have hseg : (segHalt g s).seg g = downSegment .halt (s.seg g) := by
    rw [segHalt_of_boot hboot, writeEvent_seg, seg_setSeg, if_pos rfl]
  have hpacing : (segHalt g s).pacing.state = .halted := by
    rw [segHalt_of_boot hboot, writeEvent_pacing]
    exact hp
  have hnone (k : Fin 4) : ((segHalt g s).slot g k).window = none := by
    rw [slot_of_seg hseg, downSegment, Four.get_tabulate]
  have hclosed : (closeEarlierCycle g (segHalt g s)).seg g = downSegment .halt (s.seg g) := by
    rw [closeEarlierCycle_of_none hnone, seg_setSeg, if_pos rfl, hseg]
    rfl
  rw [segCycleBegin_of_halted hpacing, scheduleSync_of_rest, hclosed]
  rw [hclosed]
  rintro (h | h) <;> cases h

/-- R146, R130: the cycle-begin first, then the entry to HALTED. -/
theorem haltAfterSteps_seg (hp : s.pacing.state = .halted) (hboot : (s.seg g).state = .boot) :
    ∃ x r, (haltAfterSteps g (segCycleBegin g s)).seg g = downSegment r x ∧ (r = .halt ∨ r = .bootFailed) := by
  rw [haltAfterSteps]
  split
  case isTrue hdown =>
    rw [segCycleBegin_of_halted hp] at hdown ⊢
    by_cases hrun : ((closeEarlierCycle g s).seg g).state = .boot ∨ ((closeEarlierCycle g s).seg g).state = .up
    · rw [scheduleSync_of_running hrun, seg_setSeg, if_pos rfl] at hdown
      exact absurd hdown (by rcases hrun with h | h <;> simp [h])
    · rw [scheduleSync_of_rest hrun] at hdown ⊢
      exact ⟨_, _, closeEarlierCycle_seg_of_down hboot hdown, .inr rfl⟩
  case isFalse =>
    refine ⟨(segCycleBegin g s).seg g, .halt, ?_, .inl rfl⟩
    rw [haltDown, segChange_goDown, writeEvent_seg, seg_setSeg, if_pos rfl]

/-- Without a window the order makes no difference. -/
theorem haltAfterSteps_seg_of_none (hp : s.pacing.state = .halted) (hboot : (s.seg g).state = .boot)
    (hnone : ∀ k, (s.slot g k).window = none) :
    (haltAfterSteps g (segCycleBegin g s)).seg g = downSegment .halt (s.seg g) := by
  have hclosed : (closeEarlierCycle g s).seg g = { s.seg g with pendingSync := none } := by
    rw [closeEarlierCycle_of_none hnone, seg_setSeg, if_pos rfl]
  have hrun : ((closeEarlierCycle g s).seg g).state = .boot ∨ ((closeEarlierCycle g s).seg g).state = .up := by
    rw [hclosed]
    exact .inl hboot
  have hseg : (segCycleBegin g s).seg g = { s.seg g with pendingSync := some (cycleSync g (closeEarlierCycle g s)) } := by
    rw [segCycleBegin_of_halted hp, scheduleSync_of_running hrun, seg_setSeg, if_pos rfl, hclosed]
  have hnotDown : ¬ ((segCycleBegin g s).seg g).state = .down := by simp [hseg, hboot]
  rw [haltAfterSteps, if_neg hnotDown, haltDown, segChange_goDown, writeEvent_seg, seg_setSeg, if_pos rfl, hseg]
  rfl

/-! ## Both segments (R151) -/

/-- What an event of the Pacing Unit may change through the segments. -/
def EventFrame (s t : State) : Prop :=
  t = { s with segs := t.segs, stations := t.stations, report := t.report, free := t.free }

theorem EventFrame.trans (h : EventFrame s t) (h' : EventFrame t u) : EventFrame s u := by
  rw [EventFrame] at h h' ⊢
  rw [h] at h'
  exact h'

theorem SegFrame.event (h : SegFrame g s t) : EventFrame s t := by
  have hfree : t.free = s.free := by rw [h.rest]
  rw [EventFrame, hfree]
  exact h.rest

theorem eventFrame_setFree (s : State) (n : Nat) : EventFrame s (s.setFree n) := rfl

theorem frame_haltDown (g : Seg) (s : State) : SegFrame g s (haltDown g s) :=
  (SegFrame.setSeg g _ s).trans (SegFrame.segChange g _ _ _)

theorem frame_segHalt (g : Seg) (s : State) : SegFrame g s (segHalt g s) := by
  rw [segHalt]
  split
  · exact frame_haltDown g s
  · exact SegFrame.refl g s

theorem frame_haltAfterSteps (g : Seg) (s : State) : SegFrame g s (haltAfterSteps g s) := by
  rw [haltAfterSteps]
  split
  · exact SegFrame.refl g s
  · exact frame_haltDown g s

@[simp] theorem segEvent_cycle (g : Seg) (s : State) : segEvent false true s g = segCycleBegin g s := by
  simp [segEvent]

@[simp] theorem segEvent_halt (g : Seg) (s : State) : segEvent true false s g = segHalt g s := by
  simp [segEvent]

theorem segEvent_both_of_boot (h : (s.seg g).state = .boot) : segEvent true true s g =
    if Config.haltEntryFirst s.free then segCycleBegin g (segHalt g (s.setFree (s.free + 1)))
    else haltAfterSteps g (segCycleBegin g (s.setFree (s.free + 1))) := by
  simp [segEvent, h]

theorem segEvent_both_of_open (h : (s.seg g).state ≠ .boot) : segEvent true true s g = segCycleBegin g s := by
  simp [segEvent, h, segHalt_of_open]

/-- A segment's part in a cycle-begin that enters HALTED: the counter of free choices, then its own frame. -/
theorem segEvent_both_frame (g : Seg) (s : State) :
    ∃ n, SegFrame g (s.setFree n) (segEvent true true s g) := by
  by_cases h : (s.seg g).state = .boot
  · refine ⟨s.free + 1, ?_⟩
    rw [segEvent_both_of_boot h]
    split
    · exact (frame_segHalt g _).trans (frame_segCycleBegin g _)
    · exact (frame_segCycleBegin g _).trans (frame_haltAfterSteps g _)
  · refine ⟨s.free, ?_⟩
    rw [segEvent_both_of_open h]
    exact frame_segCycleBegin g s

/-- R130, R146: a segment in BOOT ends in DOWN, whichever comes first. -/
theorem segEvent_both_down (hp : s.pacing.state = .halted) (hboot : (s.seg g).state = .boot) :
    ∃ x r, (segEvent true true s g).seg g = downSegment r x ∧ (r = .halt ∨ r = .bootFailed) := by
  rw [segEvent_both_of_boot hboot]
  split
  · exact ⟨_, .halt, segCycleBegin_segHalt (s := s.setFree (s.free + 1)) hp hboot, .inl rfl⟩
  · exact haltAfterSteps_seg (s := s.setFree (s.free + 1)) hp hboot

theorem segEvent_both_of_none (hp : s.pacing.state = .halted) (hboot : (s.seg g).state = .boot)
    (hnone : ∀ k, (s.slot g k).window = none) : (segEvent true true s g).seg g = downSegment .halt (s.seg g) := by
  rw [segEvent_both_of_boot hboot]
  split
  · exact segCycleBegin_segHalt (s := s.setFree (s.free + 1)) hp hboot
  · exact haltAfterSteps_seg_of_none (s := s.setFree (s.free + 1)) hp hboot hnone

theorem bothSegments_cases (halted cycle : Bool) (s : State) : ∃ n,
    bothSegments halted cycle s = segEvent halted cycle (segEvent halted cycle (s.setFree n) .a) .b ∨
    bothSegments halted cycle s = segEvent halted cycle (segEvent halted cycle (s.setFree n) .b) .a := by
  rw [bothSegments]
  split
  · refine ⟨s.free + 1, ?_⟩
    dsimp only
    split
    · exact .inr rfl
    · exact .inl rfl
  · exact ⟨s.free, .inl rfl⟩

/-- R151: at a cycle-begin that enters HALTED each segment takes its own part, on a state that differs elsewhere. -/
theorem bothSegments_both (s : State) : EventFrame s (bothSegments true true s) ∧
    ∀ g, ∃ u, EventFrame s u ∧ u.seg g = s.seg g ∧
      (bothSegments true true s).seg g = (segEvent true true u g).seg g := by
  have inOrder (n : Nat) (g₁ g₂ : Seg) (hne : g₁ ≠ g₂) (hall : ∀ g, g = g₁ ∨ g = g₂) :
      EventFrame s (segEvent true true (segEvent true true (s.setFree n) g₁) g₂) ∧
      ∀ g, ∃ u, EventFrame s u ∧ u.seg g = s.seg g ∧
        (segEvent true true (segEvent true true (s.setFree n) g₁) g₂).seg g = (segEvent true true u g).seg g := by
    obtain ⟨n₁, h₁⟩ := segEvent_both_frame g₁ (s.setFree n)
    obtain ⟨n₂, h₂⟩ := segEvent_both_frame g₂ (segEvent true true (s.setFree n) g₁)
    have hfirst : EventFrame s (segEvent true true (s.setFree n) g₁) := (eventFrame_setFree s n₁).trans h₁.event
    refine ⟨hfirst.trans ((eventFrame_setFree _ n₂).trans h₂.event), fun g => ?_⟩
    rcases hall g with rfl | rfl
    · exact ⟨s.setFree n, rfl, rfl, h₂.others g hne⟩
    · exact ⟨_, hfirst, h₁.others g hne.symm, rfl⟩
  obtain ⟨n, h | h⟩ := bothSegments_cases true true s
  · rw [h]
    exact inOrder n .a .b (by decide) fun g => by cases g <;> simp
  · rw [h]
    exact inOrder n .b .a (by decide) fun g => by cases g <;> simp

end Sys2Proof.Machine
end

section
/-! PROOF. A cycle-begin at a segment, and both segments. -/

namespace Sys2Proof.Proofs

open Sys2Proof.Machine

/-- Settles O40: the three cases of leaving DOWN, then the SYNC. -/
theorem cycleBeginAtSegment : Obligations.CycleBeginAtSegment := by
  intro g a s ha hnone t x leaves skip bound clear sync
  let s1 := s.setSeg g { x with pendingSync := none }
  have hclose : closeEarlierCycle g s = s1 := closeEarlierCycle_of_none hnone
  have hseg1 : s1.seg g = { x with pendingSync := none } := (seg_setSeg s g g _).trans (if_pos rfl)
  have ht : t = scheduleSync g (leaveDown g s1) := by rw [← hclose]; rfl
  have hleaves : mayLeaveDown g s1 = true ↔ leaves := by
    rw [mayLeaveDown_iff, hseg1]
    rfl
  have hbound (i : Fin 4) : i ∈ boundStations s1.store g ↔ bound i := mem_boundStations (s := s)
  have hsync : cycleSync g s = sync := by rw [cycleSync, ha]; rfl
  have hframe := frame_segCycleBegin g s
  have hstation (i : Fin 4) : t.station i = (leaveDown g s1).station i := by rw [ht, scheduleSync_station]
  have hreport : t.report = (leaveDown g s1).report := by rw [ht, scheduleSync_report]
  have scheduled (h : ((leaveDown g s1).seg g).state = .boot ∨ ((leaveDown g s1).seg g).state = .up) :
      t.seg g = { (leaveDown g s1).seg g with pendingSync := some sync } := by
    rw [ht, scheduleSync_of_running h, seg_setSeg, if_pos rfl, (frame_leaveDown g s1).cycleSync_eq, ← hsync]
    rfl
  have hbooted (hl : leaves) (hs : skip = false) := leaveDown_of_boot (hleaves.2 hl) hs
  have hskipped (hl : leaves) (hs : skip = true) := leaveDown_of_skip (hleaves.2 hl) hs
  have hstayed (hl : ¬ leaves) := leaveDown_of_not (mt hleaves.1 hl)
  refine ⟨fun hl hs => ⟨?_, ?_, fun i hi => ?_⟩, fun hl hs => ⟨?_, ?_, fun i hi => ?_⟩, fun hl => ⟨?_, ?_, ?_⟩,
    fun i hi => ?_, hframe.others, hframe.rest⟩
  · rw [scheduled (by rw [hbooted hl hs, leftDown_seg]; exact .inl rfl), hbooted hl hs, leftDown_seg, hseg1]
  · rw [hreport, hbooted hl hs, leftDown_report]
    exact writeEvent_report_congr _ rfl rfl
  · rw [hstation, hbooted hl hs, leftDown_station, if_pos ((hbound i).2 hi)]
    rfl
  · rw [scheduled (by rw [hskipped hl hs, leftDown_seg]; exact .inr rfl), hskipped hl hs, leftDown_seg, hseg1]
  · rw [hreport, hskipped hl hs, leftDown_report]
    exact writeEvent_report_congr _ rfl rfl
  · rw [hstation, hskipped hl hs, leftDown_station, if_pos ((hbound i).2 hi)]
    rfl
  · by_cases hrun : x.state = .boot ∨ x.state = .up
    · rw [scheduled (by rw [hstayed hl, hseg1]; exact hrun), hstayed hl, hseg1, if_pos hrun]
    · rw [ht, hstayed hl, scheduleSync_of_rest (by rw [hseg1]; exact hrun), hseg1, if_neg hrun]
  · exact Four.ext_get fun i => (hstation i).trans (by rw [hstayed hl]; rfl)
  · rw [hreport, hstayed hl]
    rfl
  · have hnot : i ∉ boundStations s1.store g := mt (hbound i).1 hi
    rw [hstation]
    by_cases hl : leaves
    · cases hs : skip with
      | true =>
        rw [hskipped hl hs, leftDown_station, if_neg hnot]
        rfl
      | false =>
        rw [hbooted hl hs, leftDown_station, if_neg hnot]
        rfl
    · rw [hstayed hl]
      rfl

/-- Settles O38: both orders, and each segment's own part in a cycle-begin that enters HALTED. -/
theorem segmentsReached : Obligations.SegmentsReached := by
  refine ⟨fun s => ?_, fun s => ?_, fun g s => ⟨segHalt_of_boot, segHalt_of_open⟩, fun s hp => ?_⟩
  · obtain ⟨n, h⟩ := bothSegments_cases false true s
    simp only [segEvent_cycle] at h
    exact ⟨n, h⟩
  · obtain ⟨n, h⟩ := bothSegments_cases true false s
    simp only [segEvent_halt] at h
    exact ⟨n, h⟩
  · intro t
    obtain ⟨hframe, hsegs⟩ := bothSegments_both s
    refine ⟨fun g hboot => ?_, fun g hopen => ?_, hframe⟩
    · obtain ⟨u, hu, hseg, ht⟩ := hsegs g
      have hpacing : u.pacing.state = .halted := by
        rw [hu]
        exact hp
      have hboot' : (u.seg g).state = .boot := hseg.symm ▸ hboot
      obtain ⟨x, r, hdown, hr⟩ := segEvent_both_down hpacing hboot'
      rw [← ht] at hdown
      refine ⟨by rw [hdown]; rfl, by rw [hdown]; exact hr, by rw [hdown]; rfl, by rw [hdown]; rfl,
        by rw [hdown]; rfl, fun k => ?_, fun hnone => ?_⟩
      · rw [slot_of_seg hdown, downSegment, Four.get_tabulate]
      · rw [ht, segEvent_both_of_none hpacing hboot' fun k => slot_of_seg hseg k ▸ hnone k, hseg]
    · obtain ⟨u, hu, hseg, ht⟩ := hsegs g
      rw [ht, segEvent_both_of_open (hseg.symm ▸ hopen)]
      refine segCycleBegin_seg_congr hp ?_ ?_ ?_ hseg hopen <;> rw [hu]

end Sys2Proof.Proofs
end

section
/-! SUPPORT. A SYNC that falls due: its bytes, the slew memories it empties, its windows, and a SYNC withheld
(R84, R131, R132, R148, R196). -/

namespace Sys2Proof.Machine

variable {s t u : State} {g : Seg} {k : Fin 4}

/-! ## The bytes of a SYNC (R196) -/

theorem packed_flatten (entries : List (List (Nat × Int))) : packed entries.flatten = (entries.map packed).flatten := by
  rw [← List.flatMap_id', packed_flatMap]

theorem syncFrame_eq (kind : Nat) (index : BitVec 6) (page : Nat) (entries : List (List (Nat × Int))) :
    syncFrame (BitVec.ofNat 8 kind) index page (entries.map packed) = syncBytes kind index page entries := by
  have hbody : packed ([(1, 0xA5), (1, (kind : Int)), (1, (index.toNat : Int)), (1, (page : Int)),
        (1, (entries.length : Int))] ++ entries.flatten) =
      [0xA5, BitVec.ofNat 8 kind] ++ beBytes 1 index.toNat ++ beBytes 1 page ++ beBytes 1 (entries.map packed).length
        ++ (entries.map packed).flatten := by
    rw [packed_append, packed_flatten, List.length_map]
    simp only [packed_field, beInt_natCast, packed_nil, beBytes_one, List.append_nil, List.append_assoc]
    rfl
  rw [syncFrame, syncBytes, hbody]

theorem entrySafe_iff (r : SlotRec) : entrySafe s (s.setpoints.get r.station) = true ↔ safeEntry s r := by
  simp [entrySafe, safeEntry, or_assoc]

theorem driveTorque_eq (d : Direction) (torque : Int) : driveTorque d torque = if d = .plus then torque else -torque := by
  cases d <;> rfl

theorem syncEntry_of_safe (h : safeEntry s (s.slotRec g k)) :
    syncEntry s g k = packed [(1, ((s.slotRec g k).address : Int) * 16), (3, 0)] := by
  have haddress : ((s.slotRec g k).address : Int) * 16 = ((s.slotRec g k).address * 16 : Nat) := by push_cast; rfl
  simp only [syncEntry, (entrySafe_iff _).2 h, if_true, haddress, packed_field, beInt_natCast, packed_nil,
    List.append_nil]

theorem syncEntry_of_run (h : ¬ safeEntry s (s.slotRec g k)) :
    syncEntry s g k = packed [(1, ((s.slotRec g k).address : Int) * 16
        + codeIn sourceOrder (s.setpoints.get (s.slotRec g k).station).source),
      (3, if (s.store.stations.get (s.slotRec g k).station).direction = .plus then
          (s.setpoints.get (s.slotRec g k).station).torque
        else -(s.setpoints.get (s.slotRec g k).station).torque)] := by
  have hcode : ((s.slotRec g k).address : Int) * 16
        + codeIn sourceOrder (s.setpoints.get (s.slotRec g k).station).source =
      ((s.slotRec g k).address * 16 + sourceCode (s.setpoints.get (s.slotRec g k).station).source : Nat) := by
    rw [sourceCode_eq]
    push_cast
    rfl
  have hrun := mt (entrySafe_iff _).1 h
  simp only [syncEntry, if_neg hrun, hcode, driveTorque_eq, packed_field, beInt_natCast, packed_nil,
    List.append_nil]

/-- R84: the frame of a segment in UP, by its kind and its entries. -/
theorem syncFrame_of_run {kind : Int} {entry : Fin 4 → List (Nat × Int)} {index : BitVec 6}
    (hsafe : (∀ k ∈ enabledSlots s.store g, safeEntry s (s.slotRec g k)) → kind = 0x02)
    (hrun : ∀ k ∈ enabledSlots s.store g, ¬ safeEntry s (s.slotRec g k) → kind = 0x01)
    (hentry : ∀ k ∈ enabledSlots s.store g,
      (safeEntry s (s.slotRec g k) → entry k = [(1, ((s.slotRec g k).address : Int) * 16), (3, 0)]) ∧
      (¬ safeEntry s (s.slotRec g k) → entry k =
        [(1, ((s.slotRec g k).address : Int) * 16
          + codeIn sourceOrder (s.setpoints.get (s.slotRec g k).station).source),
        (3, if (s.store.stations.get (s.slotRec g k).station).direction = .plus then
            (s.setpoints.get (s.slotRec g k).station).torque
          else -(s.setpoints.get (s.slotRec g k).station).torque)])) :
    syncFrame (syncKind s g) index 0 ((enabledSlots s.store g).map (syncEntry s g)) =
      syncBytes kind index 0 ((enabledSlots s.store g).map entry) := by
  have hentries : (enabledSlots s.store g).map (syncEntry s g) =
      ((enabledSlots s.store g).map entry).map packed := by
    rw [List.map_map]
    refine List.map_congr_left fun k hk => ?_
    obtain ⟨hs, hr⟩ := hentry k hk
    by_cases h : safeEntry s (s.slotRec g k)
    · rw [syncEntry_of_safe h, Function.comp_apply, hs h]
    · rw [syncEntry_of_run h, Function.comp_apply, hr h]
  rw [hentries, syncKind]
  by_cases h : ∀ k ∈ enabledSlots s.store g, safeEntry s (s.slotRec g k)
  · rw [if_pos (List.all_eq_true.2 fun k hk => (entrySafe_iff _).2 (h k hk)), hsafe h]
    exact syncFrame_eq 2 index 0 _
  · obtain ⟨k, hk, hnot⟩ : ∃ k ∈ enabledSlots s.store g, ¬ safeEntry s (s.slotRec g k) := by
      simpa only [not_forall, exists_prop] using h
    rw [if_neg fun hall => h fun k hk => (entrySafe_iff _).1 (List.all_eq_true.1 hall k hk), hrun k hk hnot]
    exact syncFrame_eq 1 index 0 _

/-! ## The slew memories (R84) -/

/-- R84: a station's slew memory is emptied by a slot's entry. -/
def emptiesSlew (s : State) (g : Seg) (i k : Fin 4) : Prop :=
  (s.slotRec g k).station = i ∧ safeEntry s (s.slotRec g k) ∧ (s.setpoints.get i).source ≠ .safe

/-- R84: one entry's part in emptying the slew memories. -/
def slewStep (g : Seg) (s : State) (k : Fin 4) : State :=
  if entrySafe s (s.setpoints.get (s.slotRec g k).station)
      && decide ((s.setpoints.get (s.slotRec g k).station).source ≠ .safe) then
    s.setStation (s.slotRec g k).station { s.station (s.slotRec g k).station with slewMemory := 0 }
  else s

theorem clearSlew_eq (g : Seg) (s : State) : clearSlew g s = (enabledSlots s.store g).foldl (slewStep g) s := rfl

theorem slewStep_eq (g : Seg) (s : State) (k : Fin 4) : slewStep g s k = s.setStations (slewStep g s k).stations := by
  rw [slewStep]
  split <;> rfl

theorem foldl_slewStep_eq (g : Seg) (l : List (Fin 4)) (s : State) :
    l.foldl (slewStep g) s = s.setStations (l.foldl (slewStep g) s).stations := by
  induction l generalizing s with
  | nil => rfl
  | cons k l ih =>
    rw [List.foldl_cons, ih, slewStep_eq]
    rfl

open Classical in
theorem slewStep_station (g : Seg) (s : State) (i k : Fin 4) :
    (slewStep g s k).station i =
      if emptiesSlew s g i k then { s.station i with slewMemory := 0 } else s.station i := by
  rw [slewStep]
  by_cases hi : (s.slotRec g k).station = i
  · subst hi
    have hiff : (entrySafe s (s.setpoints.get (s.slotRec g k).station)
        && decide ((s.setpoints.get (s.slotRec g k).station).source ≠ .safe)) = true ↔
        emptiesSlew s g (s.slotRec g k).station k := by simp [emptiesSlew, entrySafe_iff]
    by_cases h : emptiesSlew s g (s.slotRec g k).station k
    · rw [if_pos (hiff.2 h), if_pos h]
      exact (Four.get_set ..).trans (if_pos rfl)
    · rw [if_neg (mt hiff.1 h), if_neg h]
  · rw [if_neg fun h : emptiesSlew s g i k => hi h.1]
    split
    · exact (Four.get_set ..).trans (if_neg (Ne.symm hi))
    · rfl

/-- Whether an entry empties a slew memory does not depend on the stations. -/
theorem emptiesSlew_slewStep (g : Seg) (s : State) (i j k : Fin 4) :
    emptiesSlew (slewStep g s j) g i k ↔ emptiesSlew s g i k := by
  rw [slewStep_eq]
  rfl

theorem foldl_slewStep_setSeg (g : Seg) (x : Segment) (l : List (Fin 4)) (s : State) :
    l.foldl (slewStep g) (s.setSeg g x) = (l.foldl (slewStep g) s).setSeg g x := by
  have hstep (s : State) (k : Fin 4) : slewStep g (s.setSeg g x) k = (slewStep g s k).setSeg g x := by
    by_cases h : (entrySafe s (s.setpoints.get (s.slotRec g k).station)
        && decide ((s.setpoints.get (s.slotRec g k).station).source ≠ .safe)) = true
    · rw [slewStep, slewStep, if_pos h]
      exact if_pos h
    · rw [slewStep, slewStep, if_neg h]
      exact if_neg h
  induction l generalizing s with
  | nil => rfl
  | cons k l ih => rw [List.foldl_cons, List.foldl_cons, hstep, ih]

theorem clearSlew_setSeg (g : Seg) (x : Segment) (s : State) :
    clearSlew g (s.setSeg g x) = (s.setSeg g x).setStations (clearSlew g s).stations := by
  rw [clearSlew_eq, clearSlew_eq, foldl_slewStep_setSeg, foldl_slewStep_eq]
  rfl

open Classical in
theorem foldl_slewStep_station (g : Seg) (l : List (Fin 4)) (s : State) (i : Fin 4) :
    (l.foldl (slewStep g) s).station i =
      if ∃ k ∈ l, emptiesSlew s g i k then { s.station i with slewMemory := 0 } else s.station i := by
  induction l generalizing s with
  | nil => simp
  | cons k l ih =>
    rw [List.foldl_cons, ih, slewStep_station]
    simp only [emptiesSlew_slewStep, List.mem_cons, exists_eq_or_imp]
    by_cases hk : emptiesSlew s g i k <;> by_cases hl : ∃ k ∈ l, emptiesSlew s g i k <;> simp [hk, hl]

/-! ## The SYNC sent or withheld (R131, R132, R148) -/

theorem setWindows_eq (recs : Four SlotRec) (p : PendingSync) (page : Nat) (x : Four SlotRt) :
    setWindows recs p page x = Four.tabulate fun k => { x.get k with
      window := if (recs.get k).enabled then some (newWindow (recs.get k) p page) else none } := by
  refine congrArg Four.tabulate (funext fun k => ?_)
  split <;> rfl

/-- The segment that has sent a SYNC. -/
def sentSegment (recs : Four SlotRec) (p : PendingSync) (frame : List Byte) (x : Segment) : Segment :=
  { x with
    withheld := 0, pendingSync := none, sync := some { frame := frame, ends := p.due + us (2 * frame.length) },
    slots := setWindows recs p (x.bootCount % 4) x.slots }

section Due

variable {p : PendingSync} (hp : (s.seg g).pendingSync = some p) (hdue : p.due ≤ s.now)
include hp hdue

theorem syncFallsDue_of_due : syncFallsDue g s =
    if (s.seg g).state = .boot ∨ (s.seg g).state = .up then
      if lineIdle s.now (s.seg g) then sendSync g p (s.setSeg g { s.seg g with pendingSync := none })
      else withholdSync g (s.setSeg g { s.seg g with pendingSync := none })
    else s.setSeg g { s.seg g with pendingSync := none } := by
  simp only [syncFallsDue, hp, if_neg (Nat.not_lt.2 hdue), seg_setSeg, if_true]
  rfl

theorem syncFallsDue_of_rest (hboot : (s.seg g).state ≠ .boot) (hup : (s.seg g).state ≠ .up) :
    syncFallsDue g s = s.setSeg g { s.seg g with pendingSync := none } := by
  rw [syncFallsDue_of_due hp hdue, if_neg (not_or.2 ⟨hboot, hup⟩)]

theorem syncFallsDue_of_quiet (h : (s.seg g).state = .boot ∨ (s.seg g).state = .up) (hq : quiet s.now (s.seg g)) :
    syncFallsDue g s = sendSync g p (s.setSeg g { s.seg g with pendingSync := none }) := by
  rw [syncFallsDue_of_due hp hdue, if_pos h, if_pos (lineIdle_iff.2 hq)]

theorem syncFallsDue_of_busy (h : (s.seg g).state = .boot ∨ (s.seg g).state = .up)
    (hq : ¬ quiet s.now (s.seg g)) :
    syncFallsDue g s = withholdSync g (s.setSeg g { s.seg g with pendingSync := none }) := by
  rw [syncFallsDue_of_due hp hdue, if_pos h, if_neg (mt lineIdle_iff.1 hq)]

end Due

/-- The SYNC cancelled and the segment moved on in one update. -/
theorem sendSync_of_boot {p : PendingSync} (h : (s.seg g).state = .boot) :
    sendSync g p (s.setSeg g { s.seg g with pendingSync := none }) =
      s.setSeg g (sentSegment (s.store.slots.get g.num) p
        (syncFrame 0x03 p.index ((s.seg g).bootCount % 4) []) (s.seg g)) := by
  simp only [sendSync, syncFrameOf, seg_setSeg, if_true, h, reduceCtorEq, if_false, setSeg_setSeg]
  rw [← h]
  rfl

theorem sendSync_of_up {p : PendingSync} (h : (s.seg g).state = .up) :
    sendSync g p (s.setSeg g { s.seg g with pendingSync := none }) =
      (s.setSeg g (sentSegment (s.store.slots.get g.num) p
        (syncFrame (syncKind s g) p.index 0 ((enabledSlots s.store g).map (syncEntry s g))) (s.seg g))).setStations
        (clearSlew g s).stations := by
  have hseg (y : Segment) (x : Four StationRt) : ((s.setSeg g y).setStations x).seg g = y :=
    (seg_setSeg s g g y).trans (if_pos rfl)
  simp only [sendSync, syncFrameOf, seg_setSeg, if_true, h, clearSlew_setSeg]
  rw [hseg]
  refine (congrArg (State.setStations · (clearSlew g s).stations) (setSeg_setSeg s g _ _)).trans ?_
  rw [← h]
  rfl

/-- R132: a segment whose SYNC is withheld. -/
def heldSegment (recs : Four SlotRec) (x : Segment) : Segment :=
  { x with pendingSync := none, withheld := x.withheld + 1, slots := noneClasses recs x.slots }

theorem withholdSync_eq (s : State) (g : Seg) :
    withholdSync g (s.setSeg g { s.seg g with pendingSync := none }) =
      if s.store.cell.jamLimit ≤ (s.seg g).withheld + 1 then
        latch (.segJammed g) (writeEvent (.segment g .jammed) (s.setSeg g
          { heldSegment (s.store.slots.get g.num) (s.seg g) with state := .jammed, reason := .jammed }))
      else if (s.seg g).state = .boot then
        evalBoot g (s.setSeg g (heldSegment (s.store.slots.get g.num) (s.seg g)))
      else s.setSeg g (heldSegment (s.store.slots.get g.num) (s.seg g)) := by
  simp only [withholdSync, jam, segChange, seg_setSeg, if_true, setSeg_setSeg]
  rfl

end Sys2Proof.Machine
end

section
/-! PROOF. A SYNC that falls due. -/

namespace Sys2Proof.Proofs

open Sys2Proof.Machine

/-- Settles O41: the SYNC sent in BOOT and in UP, or withheld. -/
theorem syncDue : Obligations.SyncDue := by
  intro t g p s hp hdue x now enabled sent
  have due : exec (.syncDue t g) s = .next (syncFallsDue g (advance t s)) := rfl
  have hsent (frame : List Byte) : sentSegment (s.store.slots.get g.num) p frame x = sent frame := by
    rw [sentSegment, setWindows_eq]
    rfl
  rw [due]
  refine ⟨fun hboot hup => ?_, fun hboot hq => ?_, fun kind entry hup hq hkind2 hkind1 hentry => ?_,
    fun hrun hq => ?_⟩
  · rw [syncFallsDue_of_rest (s := advance t s) hp hdue hboot hup]
    rfl
  · rw [syncFallsDue_of_quiet (s := advance t s) hp hdue (.inl hboot) hq, sendSync_of_boot (s := advance t s) hboot]
    have hframe : syncFrame 0x03 p.index (x.bootCount % 4) [] = syncBytes 0x03 p.index (x.bootCount % 4) [] :=
      syncFrame_eq 3 p.index (x.bootCount % 4) []
    rw [← hframe, ← hsent]
    rfl
  · have hframe : syncFrame (syncKind (advance t s) g) p.index 0
        ((enabledSlots s.store g).map (syncEntry (advance t s) g)) = syncBytes kind p.index 0 (enabled.map entry) :=
      syncFrame_of_run (s := advance t s) hkind2 hkind1 hentry
    refine ⟨_, congrArg _ ((syncFallsDue_of_quiet (s := advance t s) hp hdue (.inr hup) hq).trans
      (sendSync_of_up (s := advance t s) hup)), ?_, fun g' hg => ?_, fun i => ?_, rfl⟩
    · rw [← hframe, ← hsent]
      exact (seg_setSeg (advance t s) g g _).trans (if_pos rfl)
    · exact (seg_setSeg (advance t s) g g' _).trans (if_neg hg)
    · classical
      intro cleared
      have hstation := foldl_slewStep_station g (enabledSlots s.store g) (advance t s) i
      have hcleared : (∃ k ∈ enabledSlots s.store g, emptiesSlew (advance t s) g i k) ↔ cleared := by
        simp only [emptiesSlew, cleared, ← and_assoc, ← exists_and_right]
        rfl
      exact ⟨fun hc => hstation.trans (if_pos (hcleared.2 hc)), fun hc => hstation.trans (if_neg (mt hcleared.1 hc))⟩
  · rw [syncFallsDue_of_busy (s := advance t s) hp hdue hrun hq, withholdSync_eq]
    intro y held
    refine ⟨fun hlt => ⟨fun hup => congrArg _ ?_, fun hboot => congrArg _ ?_⟩, fun hle => congrArg _ ?_⟩
    · have hnot : ¬ ((advance t s).seg g).state = .boot := by simp [show ((advance t s).seg g).state = .up from hup]
      exact (if_neg (Nat.not_le.2 hlt)).trans (if_neg hnot)
    · exact (if_neg (Nat.not_le.2 hlt)).trans (if_pos hboot)
    · exact if_pos hle

end Sys2Proof.Proofs
end

section
/-! SUPPORT. Windows opening and replies (R134, R135, R196). -/

namespace Sys2Proof.Machine

variable {s : State} {g : Seg} {k : Fin 4} {w : Window}

/-! ## A reply while the line is not free (R196) -/

theorem sendingSync_iff {now : Nat} {x : Segment} :
    sendingSync now x = true ↔ ∃ y, x.sync = some y ∧ now < y.ends := by
  rw [sendingSync]
  cases x.sync with
  | none => simp
  | some y => simp

theorem replyStarts_of_busy (h : (s.seg g).lineBusy = true) : replyStarts g s = s := if_pos h

theorem replyStarts_of_pause {e : Nat} (hidle : (s.seg g).lineBusy = false) (he : (s.seg g).lastEnd = some e)
    (hpause : s.now < e + 100) : replyStarts g s = s.setSeg g (resumeReply (s.seg g)) := by
  have hrested : lineRested s.now (s.seg g) = false := by
    refine Bool.eq_false_iff.2 fun h => ?_
    have := lineRested_iff.1 h e he
    omega
  simp [replyStarts, hidle, hrested]

theorem replyStarts_of_sync {y : SentSync} (hq : quiet s.now (s.seg g)) (hy : (s.seg g).sync = some y)
    (hends : s.now < y.ends) :
    replyStarts g s = s.setSeg g { s.seg g with lineBusy := true, replySlot := none } := by
  have hsending : sendingSync s.now (s.seg g) = true := sendingSync_iff.2 ⟨y, hy, hends⟩
  simp [replyStarts, hq.1, lineRested_iff.2 hq.2, hsending]

/-! ## A reply on a free line (R135) -/

/-- R134: a segment whose windows that have come are open. -/
def openedSegment (now : Nat) (x : Segment) : Segment :=
  { x with slots := Four.tabulate fun k => openIfDue now (x.slots.get k) }

/-- R135: a reply that no window takes. -/
def strayed (x : Segment) : Segment := { x with stray := bump 65535 x.stray, lineBusy := true, replySlot := none }

/-- R135: a reply that a window takes. -/
def taken (k : Fin 4) (w : Window) (x : Segment) : Segment :=
  { x with
    lineBusy := true, replySlot := some k,
    slots := x.slots.set k { x.slots.get k with window := some { w with candidate := .arriving [] } } }

/-- R135: what a reply on a free line does to the segment. -/
def received (now : Nat) (x : Segment) : Segment :=
  match openSlot now x with
  | none => strayed x
  | some k =>
    match (x.slots.get k).window with
    | none => strayed x
    | some w => if w.candidate = .none then taken k w x else strayed x

theorem replyStarts_of_free (hq : quiet s.now (s.seg g)) (hsync : ∀ y, (s.seg g).sync = some y → y.ends ≤ s.now) :
    replyStarts g s = s.setSeg g (received s.now (openedSegment s.now (s.seg g))) := by
  have hsending : sendingSync s.now (s.seg g) = false := by
    refine Bool.eq_false_iff.2 fun h => ?_
    obtain ⟨y, hy, hlt⟩ := sendingSync_iff.1 h
    exact Nat.not_le.2 hlt (hsync y hy)
  have hseg : (s.setSeg g (openedSegment s.now (s.seg g))).seg g = openedSegment s.now (s.seg g) :=
    (seg_setSeg s g g _).trans (if_pos rfl)
  have hstray : strayReply g (s.setSeg g (openedSegment s.now (s.seg g))) =
      s.setSeg g (strayed (openedSegment s.now (s.seg g))) := by
    rw [strayReply, hseg, setSeg_setSeg]
    rfl
  have htaken (k : Fin 4) (w : Window) :
      becomeCandidate g k w (s.setSeg g (openedSegment s.now (s.seg g))) =
        s.setSeg g (taken k w (openedSegment s.now (s.seg g))) := by
    rw [becomeCandidate, hseg, setSeg_setSeg]
    rfl
  have hfree : replyStarts g s =
      match openSlot s.now (openedSegment s.now (s.seg g)) with
      | none => strayReply g (s.setSeg g (openedSegment s.now (s.seg g)))
      | some k =>
        match ((openedSegment s.now (s.seg g)).slots.get k).window with
        | some w =>
          match w.candidate with
          | .none => becomeCandidate g k w (s.setSeg g (openedSegment s.now (s.seg g)))
          | .arriving _ | .complete _ => strayReply g (s.setSeg g (openedSegment s.now (s.seg g)))
        | none => strayReply g (s.setSeg g (openedSegment s.now (s.seg g))) := by
    unfold replyStarts
    rw [if_neg (by simp [hq.1]), if_neg (by simp [lineRested_iff.2 hq.2]), if_neg (by simp [hsending])]
    rfl
  rw [hfree, received]
  cases openSlot s.now (openedSegment s.now (s.seg g)) with
  | none => exact hstray
  | some k =>
    cases hw : ((openedSegment s.now (s.seg g)).slots.get k).window with
    | none => simp only [hw, hstray]
    | some w => cases hc : w.candidate <;> simp [hw, hc, hstray, htaken]

theorem received_cases (now : Nat) (x : Segment) :
    received now x = strayed x ∨
      ∃ k w, (x.slots.get k).window = some w ∧ received now x = taken k w x := by
  rw [received]
  cases openSlot now x with
  | none => exact .inl rfl
  | some k =>
    cases hw : (x.slots.get k).window with
    | none => exact .inl (by simp [hw])
    | some w =>
      by_cases hc : w.candidate = .none
      · exact .inr ⟨k, w, hw, by simp [hw, hc]⟩
      · exact .inl (by simp [hw, hc])

/-! ## The window a reply falls in (R134, R135) -/

theorem openIfDue_window (now : Nat) (x : SlotRt) : (openIfDue now x).window =
    x.window.map fun w => { w with isOpen := w.isOpen || decide (w.opens ≤ now) } := by
  rw [openIfDue]
  cases hw : x.window with
  | none => simp [hw]
  | some w =>
    by_cases ho : w.opens ≤ now
    · simp [ho]
    · simp [ho, hw]

theorem openIfDue_eq (now : Nat) (x : SlotRt) : openIfDue now x = { x with window := (openIfDue now x).window } := by
  unfold openIfDue
  split
  · split <;> rfl
  · rfl

/-- R134: the present lies in a slot's window. -/
def Inside (s : State) (g : Seg) (k : Fin 4) (w : Window) : Prop :=
  (s.slot g k).window = some w ∧ w.opens ≤ s.now ∧ s.now < w.closes

section Inside

variable (hopen : ∀ k w, (s.slot g k).window = some w → w.isOpen = true → w.opens ≤ s.now)

theorem openedSegment_window (hw : (s.slot g k).window = some w) :
    ((openedSegment s.now (s.seg g)).slots.get k).window =
      some { w with isOpen := w.isOpen || decide (w.opens ≤ s.now) } := by
  rw [openedSegment, Four.get_tabulate, openIfDue_window, show ((s.seg g).slots.get k).window = some w from hw]
  rfl

theorem openedSegment_none (hw : (s.slot g k).window = none) :
    ((openedSegment s.now (s.seg g)).slots.get k).window = none := by
  rw [openedSegment, Four.get_tabulate, openIfDue_window, show ((s.seg g).slots.get k).window = none from hw]
  rfl

/-- Whether the part takes a window for open. -/
def takes (now : Nat) (x : SlotRt) : Bool :=
  match x.window with
  | some w => w.isOpen && decide (now < w.closes)
  | none => false

theorem openSlot_eq (now : Nat) (x : Segment) : openSlot now x = four.find? fun k => takes now (x.slots.get k) := rfl

include hopen

theorem takes_iff : takes s.now ((openedSegment s.now (s.seg g)).slots.get k) = true ↔ ∃ w, Inside s g k w := by
  rw [takes]
  cases hw : (s.slot g k).window with
  | none => simp [openedSegment_none hw, Inside, hw]
  | some w =>
    have hopen' : w.isOpen = true ∨ w.opens ≤ s.now ↔ w.opens ≤ s.now := or_iff_right_of_imp (hopen k w hw)
    simp [openedSegment_window hw, Inside, hw, hopen']

theorem openSlot_of_inside (hi : Inside s g k w) (hlow : ∀ j < k, ∀ v, ¬ Inside s g j v) :
    openSlot s.now (openedSegment s.now (s.seg g)) = some k := by
  rw [openSlot_eq]
  refine find?_four ((takes_iff hopen).2 ⟨w, hi⟩) fun j hj => Bool.eq_false_iff.2 fun h => ?_
  obtain ⟨v, hv⟩ := (takes_iff hopen).1 h
  exact hlow j hj v hv

theorem openSlot_of_outside (h : ∀ k w, ¬ Inside s g k w) :
    openSlot s.now (openedSegment s.now (s.seg g)) = none := by
  rw [openSlot_eq, List.find?_eq_none]
  intro k _ ht
  obtain ⟨w, hw⟩ := (takes_iff hopen).1 ht
  exact h k w hw

/-- R135: the lowest window the moment lies in takes the reply. -/
theorem received_of_inside (hi : Inside s g k w) (hlow : ∀ j < k, ∀ v, ¬ Inside s g j v) (hc : w.candidate = .none) :
    received s.now (openedSegment s.now (s.seg g)) =
      taken k { w with isOpen := true } (openedSegment s.now (s.seg g)) := by
  have hw := openedSegment_window hi.1
  rw [decide_eq_true hi.2.1, Bool.or_true] at hw
  simp only [received, openSlot_of_inside hopen hi hlow, hw, hc, if_true]

/-- R135: a window that has a candidate leaves the reply STRAY. -/
theorem received_of_candidate (hi : Inside s g k w) (hlow : ∀ j < k, ∀ v, ¬ Inside s g j v)
    (hc : w.candidate ≠ .none) :
    received s.now (openedSegment s.now (s.seg g)) = strayed (openedSegment s.now (s.seg g)) := by
  simp only [received, openSlot_of_inside hopen hi hlow, openedSegment_window hi.1, hc, if_false]

theorem received_of_outside (h : ∀ k w, ¬ Inside s g k w) :
    received s.now (openedSegment s.now (s.seg g)) = strayed (openedSegment s.now (s.seg g)) := by
  simp only [received, openSlot_of_outside hopen h]

end Inside

/-- R135: what a reply leaves of a slot. -/
theorem received_slot (s : State) (g : Seg) (k : Fin 4) (y : Segment)
    (hy : received s.now (openedSegment s.now (s.seg g)) = y) :
    y.slots.get k = { s.slot g k with window := (y.slots.get k).window } ∧
      ((s.slot g k).window = none → (y.slots.get k).window = none) ∧
      ∀ w, (s.slot g k).window = some w → ∃ b, (y.slots.get k).window = some { w with
        isOpen := b, candidate := if y.replySlot = some k then .arriving [] else w.candidate } := by
  have hopened : (openedSegment s.now (s.seg g)).slots.get k =
      { s.slot g k with window := ((openedSegment s.now (s.seg g)).slots.get k).window } := by
    rw [openedSegment, Four.get_tabulate]
    exact openIfDue_eq _ _
  rcases received_cases s.now (openedSegment s.now (s.seg g)) with h | ⟨k', w', hw', h⟩ <;> rw [h] at hy <;> subst hy
  · exact ⟨hopened, openedSegment_none, fun w hw => ⟨_, openedSegment_window hw⟩⟩
  · by_cases hk : k = k'
    · subst hk
      have hslot : (taken k w' (openedSegment s.now (s.seg g))).slots.get k =
          { (openedSegment s.now (s.seg g)).slots.get k with
            window := some { w' with candidate := .arriving [] } } := (Four.get_set ..).trans (if_pos rfl)
      rw [hslot]
      refine ⟨by rw [hopened], fun hnone => ?_, fun w hw => ?_⟩
      · exact absurd (hw'.symm.trans (openedSegment_none hnone)) (by simp)
      · obtain rfl := Option.some.inj (hw'.symm.trans (openedSegment_window hw))
        exact ⟨_, by simp [taken]; rfl⟩
    · have hslot : (taken k' w' (openedSegment s.now (s.seg g))).slots.get k =
          (openedSegment s.now (s.seg g)).slots.get k := (Four.get_set ..).trans (if_neg hk)
      rw [hslot]
      refine ⟨hopened, openedSegment_none, fun w hw => ⟨w.isOpen || decide (w.opens ≤ s.now), ?_⟩⟩
      rw [openedSegment_window hw, if_neg]
      exact fun he => hk (Option.some.inj he).symm

/-! ## The end of a reply (R134, R196) -/

theorem replyEnds_of_idle {chars : List Byte} (h : (s.seg g).lineBusy = false) : replyEnds g chars s = s := by
  simp [replyEnds, h]

theorem replyEnds_of_stray {chars : List Byte} (h : (s.seg g).lineBusy = true) (hr : (s.seg g).replySlot = none) :
    replyEnds g chars s = s.setSeg g { s.seg g with lineBusy := false, lastEnd := some s.now } := by
  simp [replyEnds, h, hr]

theorem replyEnds_of_candidate {chars before : List Byte} (h : (s.seg g).lineBusy = true)
    (hr : (s.seg g).replySlot = some k) (hw : (s.slot g k).window = some w) (hc : w.candidate = .arriving before) :
    replyEnds g chars s = s.setSeg g { s.seg g with
      lineBusy := false, lastEnd := some s.now,
      slots := (s.seg g).slots.set k
        { s.slot g k with window := some { w with candidate := .complete (before ++ chars) } } } := by
  have hcomplete : completeCandidate chars ((s.seg g).slots.get k) =
      { s.slot g k with window := some { w with candidate := .complete (before ++ chars) } } := by
    simp only [completeCandidate, show ((s.seg g).slots.get k).window = some w from hw, hc]
    rfl
  simp only [replyEnds, h, if_true, hr, hcomplete]

end Sys2Proof.Machine
end

section
/-! PROOF. Windows opening and replies. -/

namespace Sys2Proof.Proofs

open Sys2Proof.Machine

/-- Settles O42: the window opened; the reply by the line, the SYNC and the windows; its end. -/
theorem windowsAndReplies : Obligations.WindowsAndReplies := by
  refine ⟨fun t g k w s hw hdue => ?_, fun t g s => ?_⟩
  · have hopen : openIfDue (max s.now t) (s.slot g k) =
        { s.slot g k with window := some { w with isOpen := true } } := by
      simp only [openIfDue, hw, hdue, if_true]
    have opens : exec (.windowOpen t g k) s =
        .next ((advance t s).setSlot g k (openIfDue (max s.now t) (s.slot g k))) := rfl
    rw [opens, hopen]
    rfl
  · intro x now left inside
    have starts : exec (.replyStart t g) s = .next (replyStarts g (advance t s)) := rfl
    have ends (chars : List Byte) : exec (.replyComplete t g chars) s = .next (replyEnds g chars (advance t s)) := rfl
    have hx : (advance t s).seg g = x := rfl
    rw [starts]
    refine ⟨fun hb => ?_, fun e hb he hpause => ⟨fun hr => ?_, fun k w chars hr hw hc => ?_⟩, fun y hq hy hlt => ?_,
      fun hq hsync hopen => ?_, fun chars => ⟨fun hb => ?_, fun hb => ⟨fun hr => ?_,
        fun k w before hr hw hc => ?_⟩⟩⟩
    · exact congrArg _ (replyStarts_of_busy (s := advance t s) hb)
    · rw [replyStarts_of_pause (s := advance t s) hb he hpause, hx, resumeReply_none hr]
      rfl
    · rw [replyStarts_of_pause (s := advance t s) hb he hpause, hx, resumeReply_some hr hw hc]
      rfl
    · exact congrArg _ (replyStarts_of_sync (s := advance t s) hq hy hlt)
    · refine ⟨_, congrArg _ (replyStarts_of_free (s := advance t s) hq hsync), ?_⟩
      generalize hy : received (advance t s).now (openedSegment (advance t s).now ((advance t s).seg g)) = y
      have hseg : ((advance t s).setSeg g y).seg g = y := (seg_setSeg ..).trans (if_pos rfl)
      have hcases := received_cases (advance t s).now (openedSegment (advance t s).now ((advance t s).seg g))
      rw [hy] at hcases
      refine ⟨?_, fun k w hi hlow hc => ?_, fun k w hi hlow hc => ?_, fun hout => ?_, fun k => ?_,
        fun g' hg => (seg_setSeg ..).trans (if_neg hg), ?_, rfl⟩
      · rw [hseg]
        rcases hcases with h | ⟨k, w, -, h⟩ <;> rw [h] <;> rfl
      · rw [slot_of_seg hseg, hseg, ← hy, received_of_inside (s := advance t s) hopen hi hlow hc]
        exact ⟨rfl, rfl, congrArg SlotRt.window ((Four.get_set ..).trans (if_pos rfl))⟩
      · rw [hseg, ← hy, received_of_candidate (s := advance t s) hopen hi hlow hc]
        exact ⟨rfl, rfl⟩
      · rw [hseg, ← hy, received_of_outside (s := advance t s) hopen hout]
        exact ⟨rfl, rfl⟩
      · rw [slot_of_seg hseg, hseg]
        exact received_slot (advance t s) g k y hy
      · rw [hseg]
        rcases hcases with h | ⟨k, w, -, h⟩ <;> rw [h] <;> rfl
    · exact (ends chars).trans (congrArg _ (replyEnds_of_idle (s := advance t s) hb))
    · exact (ends chars).trans (congrArg _ (replyEnds_of_stray (s := advance t s) hb hr))
    · exact (ends chars).trans (congrArg _ (replyEnds_of_candidate (s := advance t s) hb hr hw hc))

end Sys2Proof.Proofs
end

section
/-! SUPPORT. CLEAR_FAULTS: the flags taken one after another, the re-tests, and the flags that stay (R21, R150,
R191). -/

namespace Sys2Proof.Machine

variable {s : State} {mask : BitVec 18}

/-! ## The flags in their order (R191, R198) -/

theorem allFlags_bits : allFlags.map flagBit = List.range 18 := by decide

theorem allFlags_nodup : allFlags.Nodup := by decide

theorem mem_allFlags (f : Flag) : f ∈ allFlags := by
  have h : flagBit f ∈ allFlags.map flagBit := by
    rw [allFlags_bits, List.mem_range]
    exact flagBit_lt f
  obtain ⟨f', hf', he⟩ := List.mem_map.1 h
  exact flagBit_inj he ▸ hf'

theorem persists_eq (f : Flag) (s : State) : persists f s = flagPersists s (flagBit f) := by
  cases f with
  | segJammed g | segSilent g | slotError g => cases g <;> rfl
  | stationFault i => fin_cases i <;> rfl
  | lockBroken g => fin_cases g <;> rfl
  | cycleEarly | cellSilent | demandLost | linkCheck | eventOverrun | checkFailed => rfl

/-- The flags as a mask: each its bit. -/
theorem foldl_flagMask_toNat (fs : List Flag) (m : BitVec 18) (hnodup : fs.Nodup)
    (hfree : ∀ f ∈ fs, m.getLsbD (flagBit f) = false) :
    (fs.foldl (fun m f => m ||| flagMask f) m).toNat = m.toNat + (fs.map fun f => 2 ^ flagBit f).sum := by
  induction fs generalizing m with
  | nil => simp
  | cons f fs ih =>
    obtain ⟨hf, hfs⟩ := List.nodup_cons.1 hnodup
    have hdisjoint : m &&& flagMask f = 0#18 := by
      refine BitVec.eq_of_getLsbD_eq fun b _ => ?_
      rw [BitVec.getLsbD_and, flagMask_bit, BitVec.getLsbD_zero]
      by_cases hb : b = flagBit f
      · rw [hb, hfree f List.mem_cons_self, Bool.false_and]
      · rw [decide_eq_false hb, Bool.and_false]
    have hmask : (flagMask f).toNat = 2 ^ flagBit f := by
      rw [flagMask, BitVec.toNat_twoPow, Nat.mod_eq_of_lt (Nat.pow_lt_pow_right (by decide) (flagBit_lt f))]
    rw [List.foldl_cons, ih _ hfs, ← BitVec.add_eq_or_of_and_eq_zero _ _ hdisjoint,
      BitVec.toNat_add_of_and_eq_zero hdisjoint, hmask, List.map_cons, List.sum_cons, Nat.add_assoc]
    intro f' hf'
    have hne : flagBit f' ≠ flagBit f := fun he => hf (flagBit_inj he ▸ hf')
    rw [BitVec.getLsbD_or, hfree f' (List.mem_cons_of_mem _ hf'), flagMask_bit, decide_eq_false hne, Bool.or_false]

theorem flagSet_toNat {fs : List Flag} (h : fs.Nodup) : (flagSet fs).toNat = (fs.map fun f => 2 ^ flagBit f).sum := by
  rw [flagSet, foldl_flagMask_toNat fs 0 h (by simp)]
  simp

/-- R198: a mask's argument reads back. -/
theorem clearFaults_mask (mask : BitVec 18) (s : State) :
    clearFaults (packed [(3, (mask.toNat : Int))]) s = (allFlags.foldl (clearFlag mask) s,
      doneWith (stayedFlags mask s allFlags).length (maskBytes (flagSet (stayedFlags mask s allFlags)))) := by
  have hsplit : splitFields [3] (packed [(3, (mask.toNat : Int))]) = some [mask.toNat] :=
    splitFields_packed [(3, mask.toNat)] (by have := mask.isLt; simp; omega)
  simp only [clearFaults, hsplit, if_neg (Nat.not_le.2 mask.isLt), BitVec.ofNat_toNat, BitVec.setWidth_eq]

theorem clearFaults_wide {n : Nat} (hlo : 2 ^ 18 ≤ n) (hhi : n < 2 ^ 24) (s : State) :
    clearFaults (packed [(3, (n : Int))]) s = (s, refusedWith .badArgument 1) := by
  have hsplit : splitFields [3] (packed [(3, (n : Int))]) = some [n] :=
    splitFields_packed [(3, n)] (by simp; omega)
  simp only [clearFaults, hsplit, if_pos hlo]

theorem clearFlag_of_unnamed {f : Flag} (h : mask.getLsbD (flagBit f) = false) : clearFlag mask s f = s := by
  simp [clearFlag, h]

theorem clearFlag_of_named {f : Flag} (h : mask.getLsbD (flagBit f) = true) : clearFlag mask s f =
    if persists f (treatFlag f s) then treatFlag f s else unlatch f (treatFlag f s) := by
  simp [clearFlag, h]

theorem stayedFlags_append (a b : List Flag) (s : State) :
    stayedFlags mask s (a ++ b) = stayedFlags mask s a ++ stayedFlags mask (a.foldl (clearFlag mask) s) b := by
  induction a generalizing s with
  | nil => rfl
  | cons f a ih =>
    simp only [List.cons_append, stayedFlags, List.foldl_cons, ih]
    split <;> rfl

/-! ## A mask of one flag -/

section One

variable {f : Flag}

theorem foldl_clearFlag_of_others (fs : List Flag) (h : f ∉ fs) (s : State) :
    fs.foldl (clearFlag (flagMask f)) s = s := by
  induction fs with
  | nil => rfl
  | cons f' fs ih =>
    rw [List.mem_cons, not_or] at h
    have hbit : (flagMask f).getLsbD (flagBit f') = false := by
      rw [flagMask_bit]
      exact decide_eq_false fun he => h.1 (flagBit_inj he.symm)
    rw [List.foldl_cons, clearFlag_of_unnamed hbit, ih h.2]

theorem stayedFlags_of_others (fs : List Flag) (h : f ∉ fs) (s : State) : stayedFlags (flagMask f) s fs = [] := by
  induction fs with
  | nil => rfl
  | cons f' fs ih =>
    rw [List.mem_cons, not_or] at h
    have hbit : (flagMask f).getLsbD (flagBit f') = false := by
      rw [flagMask_bit]
      exact decide_eq_false fun he => h.1 (flagBit_inj he.symm)
    simp [stayedFlags, hbit, clearFlag_of_unnamed hbit, ih h.2]

/-- R191: a mask of one flag treats that flag alone. -/
theorem clearFaults_one (f : Flag) (s : State) :
    clearFaults (packed [(3, ((flagMask f).toNat : Int))]) s = (clearFlag (flagMask f) s f,
      if persists f (clearFlag (flagMask f) s f) && isLatched f (clearFlag (flagMask f) s f) then
        doneWith 1 (maskBytes (flagMask f))
      else doneWith 0 [0, 0, 0]) := by
  obtain ⟨before, after, hlist⟩ := List.append_of_mem (mem_allFlags f)
  have hnodup := allFlags_nodup
  rw [hlist] at hnodup
  obtain ⟨-, hafter, hdisjoint⟩ := List.nodup_append.1 hnodup
  have hb : f ∉ before := fun h => hdisjoint f h f List.mem_cons_self rfl
  have ha : f ∉ after := (List.nodup_cons.1 hafter).1
  have hbit : (flagMask f).getLsbD (flagBit f) = true := by rw [flagMask_bit]; exact decide_eq_true rfl
  have hstayed : stayedFlags (flagMask f) s allFlags =
      if persists f (clearFlag (flagMask f) s f) && isLatched f (clearFlag (flagMask f) s f) then [f] else [] := by
    rw [hlist, stayedFlags_append, stayedFlags_of_others before hb, foldl_clearFlag_of_others before hb,
      List.nil_append, stayedFlags, hbit, Bool.true_and, stayedFlags_of_others after ha]
  have hcleared : allFlags.foldl (clearFlag (flagMask f)) s = clearFlag (flagMask f) s f := by
    rw [hlist, List.foldl_append, foldl_clearFlag_of_others before hb, List.foldl_cons,
      foldl_clearFlag_of_others after ha]
  have hone : flagSet [f] = flagMask f := BitVec.zero_or
  rw [clearFaults_mask, hstayed, hcleared]
  split
  · rw [hone]
    rfl
  · rfl

/-- R191: the flag's condition does not persist after its treatment. -/
theorem clearFaults_of_cleared (h : persists f (treatFlag f s) = false) :
    clearFaults (packed [(3, ((flagMask f).toNat : Int))]) s =
      (unlatch f (treatFlag f s), doneWith 0 [0, 0, 0]) := by
  have hbit : (flagMask f).getLsbD (flagBit f) = true := by rw [flagMask_bit]; exact decide_eq_true rfl
  have hflag : clearFlag (flagMask f) s f = unlatch f (treatFlag f s) := by
    rw [clearFlag_of_named hbit, h]
    rfl
  have hoff : isLatched f (unlatch f (treatFlag f s)) = false := by simp [isLatched, unlatch_bit]
  rw [clearFaults_one, hflag, hoff, Bool.and_false]
  rfl

/-- R191: the flag's condition persists, so the flag stays. -/
theorem clearFaults_of_persists (ht : treatFlag f s = s) (h : persists f s = true)
    (hl : s.report.faults.getLsbD (flagBit f) = true) :
    clearFaults (packed [(3, ((flagMask f).toNat : Int))]) s = (s, doneWith 1 (maskBytes (flagMask f))) := by
  have hbit : (flagMask f).getLsbD (flagBit f) = true := by rw [flagMask_bit]; exact decide_eq_true rfl
  have hflag : clearFlag (flagMask f) s f = s := by
    rw [clearFlag_of_named hbit, ht, h]
    rfl
  rw [clearFaults_one, hflag, h, show isLatched f s = true from hl]
  rfl

end One

/-! ## Masks whose flags are treated in the register alone -/

/-- A state whose register and overrun count CLEAR_FAULTS has changed. -/
def registered (s : State) (faults : BitVec 18) (overruns : Nat) : State :=
  s.setReport { s.report with faults := faults, overruns := overruns }

/-- No flag of the mask re-tests a segment or a station. -/
def Plain (mask : BitVec 18) (s : State) : Prop :=
  (∀ g : Seg, mask.getLsbD (5 + g.num.val) = true → (s.seg g).state ≠ .jammed) ∧
    ∀ i : Fin 4, mask.getLsbD (11 + i.val) = true → (s.station i).state ≠ .faulted

/-- R191: what stays of the register after some flags. -/
def remaining (mask : BitVec 18) (s : State) (faults : BitVec 18) (fs : List Flag) : BitVec 18 :=
  fs.foldl (fun faults f =>
    if mask.getLsbD (flagBit f) && !persists f s then faults &&& ~~~(flagMask f) else faults) faults

theorem clearedOne_bit (c : Bool) (faults : BitVec 18) (f : Flag) {b : Nat} (hb : b < 18) :
    (if c then faults &&& ~~~(flagMask f) else faults).getLsbD b =
      (faults.getLsbD b && !(c && decide (flagBit f = b))) := by
  cases c with
  | false => simp
  | true =>
    rw [if_pos rfl, BitVec.getLsbD_and, BitVec.getLsbD_not, flagMask_bit, decide_eq_true hb, Bool.true_and,
      Bool.true_and]
    simp only [eq_comm]

theorem remaining_bit (faults : BitVec 18) (fs : List Flag) {b : Nat} (hb : b < 18) :
    (remaining mask s faults fs).getLsbD b = (faults.getLsbD b &&
      !(decide (∃ f ∈ fs, flagBit f = b) && mask.getLsbD b && !flagPersists s b)) := by
  induction fs generalizing faults with
  | nil => simp [remaining]
  | cons f fs ih =>
    rw [remaining, List.foldl_cons, ← remaining, ih, clearedOne_bit _ _ _ hb, persists_eq]
    by_cases he : flagBit f = b
    · subst he
      simp only [List.mem_cons, exists_eq_or_imp, true_or, decide_true, Bool.and_true, Bool.true_and]
      cases faults.getLsbD (flagBit f) <;> cases mask.getLsbD (flagBit f) <;>
        cases flagPersists s (flagBit f) <;> simp
    · simp [he]

theorem treatFlag_registered (h : Plain mask s) {f : Flag} (hf : mask.getLsbD (flagBit f) = true)
    (faults : BitVec 18) (overruns : Nat) :
    treatFlag f (registered s faults overruns) =
      registered s faults (if f = .eventOverrun then 0 else overruns) := by
  cases f with
  | eventOverrun => rfl
  | segJammed g => exact if_neg (h.1 g hf)
  | stationFault i => exact if_neg fun hr => h.2 i hf hr.1
  | cycleEarly | cellSilent | demandLost | linkCheck | segSilent | slotError | lockBroken | checkFailed => rfl

theorem persists_registered (f : Flag) (faults : BitVec 18) (overruns : Nat) :
    persists f (registered s faults overruns) = persists f s := by cases f <;> rfl

theorem clearFlag_registered (h : Plain mask s) (f : Flag) (faults : BitVec 18) (overruns : Nat) :
    clearFlag mask (registered s faults overruns) f = registered s (remaining mask s faults [f])
      (if f = .eventOverrun ∧ mask.getLsbD 4 = true then 0 else overruns) := by
  cases hf : mask.getLsbD (flagBit f) with
  | false =>
    have hover : ¬ (f = .eventOverrun ∧ mask.getLsbD 4 = true) := by
      rintro ⟨rfl, hm⟩
      exact absurd hm (by simpa [flagBit] using hf)
    rw [clearFlag_of_unnamed hf, if_neg hover]
    simp [remaining, hf]
  | true =>
    have hover : (f = .eventOverrun ∧ mask.getLsbD 4 = true) ↔ f = .eventOverrun :=
      and_iff_left_of_imp fun he => by rw [he] at hf; exact hf
    rw [clearFlag_of_named hf, treatFlag_registered h hf, persists_registered]
    simp only [hover, remaining, List.foldl_cons, List.foldl_nil, hf, Bool.true_and]
    cases persists f s <;> rfl

theorem foldl_clearFlag_registered (h : Plain mask s) (fs : List Flag) (faults : BitVec 18) (overruns : Nat) :
    fs.foldl (clearFlag mask) (registered s faults overruns) = registered s (remaining mask s faults fs)
      (if .eventOverrun ∈ fs ∧ mask.getLsbD 4 = true then 0 else overruns) := by
  induction fs generalizing faults overruns with
  | nil => simp [remaining]
  | cons f fs ih =>
    rw [List.foldl_cons, clearFlag_registered h, ih]
    have hover : (if .eventOverrun ∈ fs ∧ mask.getLsbD 4 = true then 0
        else if f = .eventOverrun ∧ mask.getLsbD 4 = true then 0 else overruns) =
        if .eventOverrun ∈ f :: fs ∧ mask.getLsbD 4 = true then 0 else overruns := by
      by_cases hmem : Flag.eventOverrun ∈ fs
      · rw [if_congr (and_iff_right hmem) rfl rfl, if_congr (and_iff_right (List.mem_cons_of_mem _ hmem)) rfl rfl]
        by_cases hm : mask.getLsbD 4 = true
        · rw [if_pos hm, if_pos hm]
        · rw [if_neg hm, if_neg hm, if_neg fun hc => hm hc.2]
      · have heq : Flag.eventOverrun ∈ f :: fs ↔ f = .eventOverrun := by simp [hmem, eq_comm]
        rw [if_neg fun hc => hmem hc.1, if_congr (and_congr_left' heq) rfl rfl]
    rw [hover]
    rfl

theorem stayedFlags_registered (h : Plain mask s) {fs : List Flag} (hfs : fs.Nodup) (faults : BitVec 18)
    (overruns : Nat) (hsame : ∀ f ∈ fs, faults.getLsbD (flagBit f) = s.report.faults.getLsbD (flagBit f)) :
    stayedFlags mask (registered s faults overruns) fs = fs.filter fun f =>
      mask.getLsbD (flagBit f) && s.report.faults.getLsbD (flagBit f) && flagPersists s (flagBit f) := by
  induction fs generalizing faults overruns with
  | nil => rfl
  | cons f fs ih =>
    obtain ⟨hf, hnodup⟩ := List.nodup_cons.1 hfs
    have hother : ∀ f' ∈ fs, (remaining mask s faults [f]).getLsbD (flagBit f') =
        s.report.faults.getLsbD (flagBit f') := fun f' hf' => by
      have hne : flagBit f ≠ flagBit f' := fun he => hf (flagBit_inj he ▸ hf')
      rw [remaining_bit _ _ (flagBit_lt f'), hsame f' (List.mem_cons_of_mem _ hf')]
      simp [hne]
    have hstays : (mask.getLsbD (flagBit f) && flagPersists s (flagBit f) &&
        (remaining mask s faults [f]).getLsbD (flagBit f)) =
        (mask.getLsbD (flagBit f) && s.report.faults.getLsbD (flagBit f) && flagPersists s (flagBit f)) := by
      rw [remaining_bit _ _ (flagBit_lt f), hsame f List.mem_cons_self]
      cases mask.getLsbD (flagBit f) <;> cases flagPersists s (flagBit f) <;> simp
    rw [stayedFlags, clearFlag_registered h, persists_registered, ih hnodup _ _ hother, List.filter_cons,
      isLatched, persists_eq]
    exact congrArg (fun c : Bool => if c then _ else _) hstays

theorem remaining_all (mask : BitVec 18) (s : State) (b : Nat) (hb : b < 18) :
    (remaining mask s s.report.faults allFlags).getLsbD b =
      (s.report.faults.getLsbD b && (!mask.getLsbD b || flagPersists s b)) := by
  have hex : ∃ f ∈ allFlags, flagBit f = b := List.mem_map.1 (allFlags_bits ▸ List.mem_range.2 hb)
  rw [remaining_bit _ _ hb, decide_eq_true hex, Bool.true_and, Bool.not_and, Bool.not_not]

theorem stayedBits (p : Nat → Bool) :
    (allFlags.filter fun f => p (flagBit f)).map flagBit = (List.range 18).filter p := by
  rw [← allFlags_bits, List.filter_map]
  rfl

/-- R191: a mask whose flags are treated in the register alone. -/
theorem clearFaults_of_plain (h : Plain mask s) :
    let stayed := (List.range 18).filter fun b =>
      mask.getLsbD b && s.report.faults.getLsbD b && flagPersists s b
    clearFaults (packed [(3, (mask.toNat : Int))]) s =
      (registered s (remaining mask s s.report.faults allFlags) (if mask.getLsbD 4 then 0 else s.report.overruns),
        { result := .done, detail := stayed.length,
          data := packed [(3, ((stayed.map fun b => 2 ^ b).sum : Nat))] }) := by
  intro stayed
  have hstate : allFlags.foldl (clearFlag mask) s = registered s (remaining mask s s.report.faults allFlags)
      (if mask.getLsbD 4 then 0 else s.report.overruns) := by
    refine (foldl_clearFlag_registered h allFlags s.report.faults s.report.overruns).trans ?_
    simp only [mem_allFlags, true_and]
  have hstayed := stayedFlags_registered h allFlags_nodup s.report.faults s.report.overruns fun _ _ => rfl
  have hbits : (stayedFlags mask s allFlags).map flagBit = stayed := (congrArg _ hstayed).trans (stayedBits fun b =>
    mask.getLsbD b && s.report.faults.getLsbD b && flagPersists s b)
  have hnodup : (stayedFlags mask s allFlags).Nodup := hstayed ▸ allFlags_nodup.filter _
  rw [clearFaults_mask, hstate, maskBytes, flagSet_toNat hnodup, ← packed_nat, ← hbits, List.length_map,
    List.map_map]
  rfl

/-! ## A JAMMED segment (R150) and a FAULTED station (R21) -/

section Jam

variable {g : Seg}

theorem clearJam_of_quiet (hj : (s.seg g).state = .jammed) (hq : quiet s.now (s.seg g)) :
    clearJam g s = writeEvent (.segment g .jamCleared) (s.setSeg g (downSegment .jamCleared (s.seg g))) := by
  rw [clearJam, if_pos hj, if_pos (lineIdle_iff.2 hq), segChange_goDown]

theorem clearFaults_jam_of_quiet (hj : (s.seg g).state = .jammed) (hq : quiet s.now (s.seg g)) :
    clearFaults (packed [(3, ((flagMask (.segJammed g)).toNat : Int))]) s =
      (unlatch (.segJammed g)
        (writeEvent (.segment g .jamCleared) (s.setSeg g (downSegment .jamCleared (s.seg g)))),
        doneWith 0 [0, 0, 0]) := by
  have htreat : treatFlag (.segJammed g) s = writeEvent (.segment g .jamCleared)
      (s.setSeg g (downSegment .jamCleared (s.seg g))) := clearJam_of_quiet hj hq
  rw [clearFaults_of_cleared, htreat]
  rw [htreat]
  refine decide_eq_false ?_
  rw [writeEvent_seg, seg_setSeg, if_pos rfl]
  exact SegState.noConfusion

theorem clearFaults_jam_of_busy (hj : (s.seg g).state = .jammed) (hq : ¬ quiet s.now (s.seg g))
    (hl : s.report.faults.getLsbD (flagBit (.segJammed g)) = true) :
    clearFaults (packed [(3, ((flagMask (.segJammed g)).toNat : Int))]) s =
      (s, doneWith 1 (packed [(3, ((flagMask (.segJammed g)).toNat : Int))])) := by
  have htreat : treatFlag (.segJammed g) s = s := by
    rw [treatFlag, clearJam, if_pos hj, if_neg fun hi => hq (lineIdle_iff.1 hi)]
  rw [clearFaults_of_persists htreat (decide_eq_true hj) hl, packed_nat]
  rfl

end Jam

section Station

variable {i : Fin 4}

/-- R21: what the re-test of a FAULTED station asks. -/
def Passes (s : State) (i : Fin 4) : Prop :=
  let x := s.station i
  stationSegState s i = some .up ∧
    (x.init.counts.isSome = true ∧ x.init.ratedTorque.isSome = true ∧
      x.init.ratedSpeed.isSome = true ∧ x.init.mark = .none) ∧
    (∀ b, x.status = some b → b.getLsbD 1 = false) ∧
    ∀ v, x.speed = some v → v.natAbs < x.overspeedLimit

theorem retestPasses_iff : retestPasses s i = true ↔ Passes s i := by
  cases hstatus : (s.station i).status <;> cases hspeed : (s.station i).speed <;>
    simp [retestPasses, Passes, validInit, statusFault, hstatus, hspeed, and_assoc]

theorem clearFaults_station_of_passes (hf : (s.station i).state = .faulted) (hp : Passes s i) :
    clearFaults (packed [(3, ((flagMask (.stationFault i)).toNat : Int))]) s =
      (unlatch (.stationFault i) (s.setStation i (waitingRt (s.store.stations.get i) (s.station i))),
        doneWith 0 [0, 0, 0]) := by
  have htreat : treatFlag (.stationFault i) s = s.setStation i (waitingRt (s.store.stations.get i) (s.station i)) :=
    if_pos ⟨hf, retestPasses_iff.2 hp⟩
  rw [clearFaults_of_cleared, htreat]
  rw [htreat]
  refine decide_eq_false ?_
  rw [State.station, State.setStation, State.setStations_stations, Four.get_set, if_pos rfl]
  exact StationState.noConfusion

theorem clearFaults_station_of_fails (hf : (s.station i).state = .faulted) (hp : ¬ Passes s i)
    (hl : s.report.faults.getLsbD (flagBit (.stationFault i)) = true) :
    clearFaults (packed [(3, ((flagMask (.stationFault i)).toNat : Int))]) s =
      (s, doneWith 1 (packed [(3, ((flagMask (.stationFault i)).toNat : Int))])) := by
  have htreat : treatFlag (.stationFault i) s = s := if_neg fun h => hp (retestPasses_iff.1 h.2)
  rw [clearFaults_of_persists htreat (decide_eq_true hf) hl, packed_nat]
  rfl

end Station

end Sys2Proof.Machine
end

section
/-! PROOF. CLEAR_FAULTS. -/

namespace Sys2Proof.Proofs

open Sys2Proof.Machine

/-- Settles O34: the mask too wide; the register alone; a jammed segment; a FAULTED station. -/
theorem clearFaults : Obligations.ClearFaults := by
  intro t tag s hh
  have taken {args : List Byte} {s' : State} {a : Answer} (hb : Machine.clearFaults args (arrive t s) = (s', a)) :
      exec (.clearFaults t tag args) s = answered 0x70 tag a (arrive t s) s' :=
    takeRequest_of_empty 0x70 tag hh hb
  refine ⟨fun n hlo hhi => taken (clearFaults_wide hlo hhi _), fun mask hseg hstation => ?_, fun g hj => ?_,
    fun i hf => ?_⟩
  · exact ⟨_, remaining_all mask _, taken (clearFaults_of_plain ⟨hseg, hstation⟩)⟩
  · exact ⟨fun hq => taken (clearFaults_jam_of_quiet hj hq), fun hq hl => taken (clearFaults_jam_of_busy hj hq hl)⟩
  · rw [reset_station]
    exact ⟨fun hp => taken (clearFaults_station_of_passes hf hp), fun hp hl =>
      taken (clearFaults_station_of_fails hf hp hl)⟩

end Sys2Proof.Proofs
end

section
/-! SUPPORT. The measures of the stations, the ring and its acceleration, and the correction of a member. -/

namespace Sys2Proof.Machine

theorem clampAbs_eq (b : Nat) (z : Int) : clampAbs b z = max (-(b : Int)) (min (b : Int) z) := rfl

theorem directionSign_eq (d : Direction) : directionSign d = if d = .plus then 1 else -1 := by cases d <;> rfl

/-! ## Rings (R17, R18, R48) -/

theorem getLast?_take_sub {ring : List Int} {k : Nat} (h : k + 1 ≤ ring.length) :
    (ring.take (ring.length - k)).getLast? = ring[ring.length - 1 - k]? := by
  rw [List.getLast?_eq_getElem?, List.length_take, Nat.min_eq_left (Nat.sub_le ..), List.getElem?_take_of_lt (by omega)]
  congr 1
  omega

theorem ringAccel_of_short {ring : List Int} {k period : Nat} (h : ring.length < k + 1) :
    ringAccel ring k period = 0 := if_pos h

theorem ringAccel_of_roundsTo {ring : List Int} {k period : Nat} {newest older q : Int}
    (h : k + 1 ≤ ring.length) (hnewest : ring.getLast? = some newest)
    (holder : ring[ring.length - 1 - k]? = some older)
    (hq : RoundsTo ((newest - older) * 1000) (k * period) q) :
    ringAccel ring k period = max (-50000) (min 50000 q) := by
  rw [ringAccel, if_neg (Nat.not_lt.2 h), hnewest, getLast?_take_sub h, holder]
  dsimp only [Option.getD_some]
  rw [roundDiv_eq_of_roundsTo hq, clampAbs_eq]
  rfl

/-- R17, R18, R48: the ring with one more speed. -/
theorem ringAccel_pushRing (before : List Int) (k period : Nat) (v : Int) :
    RingAccel k period before v (pushRing before v) (ringAccel (pushRing before v) k period) where
  ring := pushRing_eq before v
  short := ringAccel_of_short
  accel := fun hk _ _ _ _ hnewest holder hq => ringAccel_of_roundsTo hk hnewest holder hq

/-! ## A station's measures (R7, R10, R17, R18) -/

section Limits

variable {r : StationRec} {v : InitValues}

theorem torqueLimitOf_absent (h : r.present = false) : torqueLimitOf r v = 0 :=
  if_neg (Bool.eq_false_iff.1 h)

theorem overspeedLimitOf_absent (h : r.present = false) : overspeedLimitOf r v = 0 :=
  if_neg (Bool.eq_false_iff.1 h)

theorem torqueLimitOf_unrated (h : r.present = true) (hv : v.ratedTorque = none) :
    torqueLimitOf r v = r.torqueLimit := by
  rw [torqueLimitOf, if_pos h, hv]

theorem torqueLimitOf_rated {n : Nat} (h : r.present = true) (hv : v.ratedTorque = some n) :
    torqueLimitOf r v = min r.torqueLimit n := by
  rw [torqueLimitOf, if_pos h, hv]

theorem overspeedLimitOf_unrated (h : r.present = true) (hv : v.ratedSpeed = none) :
    overspeedLimitOf r v = r.overspeed := by
  rw [overspeedLimitOf, if_pos h, hv]

theorem overspeedLimitOf_rated {n q : Nat} (h : r.present = true) (hv : v.ratedSpeed = some n)
    (hq : RoundsTo ((n * r.circumference : Nat) : Int) 60 q) : overspeedLimitOf r v = min r.overspeed q := by
  rw [overspeedLimitOf, if_pos h, hv]
  exact congrArg (fun z : Int => min r.overspeed z.toNat) (roundDiv_eq_of_roundsTo hq)

theorem validInit_iff : validInit v = true ↔
    v.counts ≠ none ∧ v.ratedTorque ≠ none ∧ v.ratedSpeed ≠ none ∧ v.mark = .none := by
  simp [validInit, Option.isSome_iff_ne_none, and_assoc]

theorem surfaceSpeed_of_invalid (m : Measure)
    (h : v.counts = none ∨ v.ratedTorque = none ∨ v.ratedSpeed = none ∨ v.mark ≠ .none) :
    surfaceSpeed r v m = none := by
  refine if_neg fun hv => ?_
  obtain ⟨hcounts, htorque, hspeed, hmark⟩ := validInit_iff.1 hv
  rcases h with h | h | h | h
  exacts [hcounts h, htorque h, hspeed h, h hmark]

theorem surfaceSpeed_of_valid {m : Measure} {n : Nat} {q : Int} (hcounts : v.counts = some n)
    (htorque : v.ratedTorque ≠ none) (hspeed : v.ratedSpeed ≠ none) (hmark : v.mark = .none)
    (hq : RoundsTo (m.cps * (if r.direction = .plus then 1 else -1) * (r.circumference : Int)) n q) :
    surfaceSpeed r v m = some (max (-90000000) (min 90000000 q)) := by
  have hvalid : validInit v = true := validInit_iff.2 ⟨by simp [hcounts], htorque, hspeed, hmark⟩
  rw [surfaceSpeed, if_pos hvalid, hcounts, Option.getD_some, directionSign_eq, roundDiv_eq_of_roundsTo hq,
    clampAbs_eq]
  rfl

end Limits

theorem motionStage_station (s : State) (i : Fin 4) : (motionStage s).station i =
    updateMotion (s.store.stations.get i) s.pacing.period (s.station i) := Four.get_tabulate ..

theorem updateMotion_of_running {x : StationRt} (h : liveOrStale x = true) (r : StationRec) (period : Nat) {v : Int}
    (hv : x.speed = some v) : updateMotion r period x =
      { x with ring := pushRing x.ring v, accel := ringAccel (pushRing x.ring v) r.accelWindow period } := by
  rw [updateMotion, if_pos h, hv]
  rfl

theorem updateMotion_of_resting {x : StationRt} (h : liveOrStale x = false) (r : StationRec) (period : Nat) :
    updateMotion r period x = { x with accel := 0 } := if_neg (Bool.eq_false_iff.1 h)

/-! ## The correction of a member (R52, R53) -/

theorem windsUp_iff (authority : Nat) (e force : Int) :
    windsUp authority e force = true ↔ (authority : Int) < |force| ∧ 0 < e * force := by
  rw [windsUp, Bool.and_eq_true, decide_eq_true_eq, decide_eq_true_eq, Int.abs_eq_natAbs, Nat.cast_lt]
  refine and_congr_right fun hlt => ?_
  have hforce : force ≠ 0 := by omega
  rcases lt_trichotomy e 0 with he | rfl | he <;> rcases lt_or_gt_of_ne hforce with hf | hf
  · simp [Int.sign_eq_neg_one_of_neg he, Int.sign_eq_neg_one_of_neg hf, mul_pos_of_neg_of_neg he hf]
  · simp [Int.sign_eq_neg_one_of_neg he, Int.sign_eq_one_of_pos hf, (mul_neg_of_neg_of_pos he hf).le]
  · simp [Int.sign_eq_neg_one_of_neg hf]
  · simp [Int.sign_eq_one_of_pos hf]
  · simp [Int.sign_eq_one_of_pos he, Int.sign_eq_neg_one_of_neg hf, (mul_neg_of_pos_of_neg he hf).le]
  · simp [Int.sign_eq_one_of_pos he, Int.sign_eq_one_of_pos hf, mul_pos he hf]

end Sys2Proof.Machine
end

section
/-! PROOF. Measures and corrections. -/

namespace Sys2Proof.Proofs

open Sys2Proof.Machine

/-- Settles O51: both roundings exist, and `windsUp` is the test of R53. -/
theorem lockCorrection : Obligations.LockCorrection := by
  intro r period authority e integrator
  refine ⟨roundDiv (e * period) 1000, unlimited r e (tentative r period e integrator), unlimited r e integrator,
    tentative r period e integrator, roundsTo_roundDiv (by decide), ?_, roundsTo_roundDiv (by decide),
    roundsTo_roundDiv (by decide), fun h => ?_, fun h => ?_, ?_, ?_⟩
  · rw [tentative, clampAbs_eq]
    push_cast
    rfl
  · rw [correct, if_pos ((windsUp_iff ..).2 h), clampAbs_eq]
  · rw [correct, if_neg fun hw => h ((windsUp_iff ..).1 hw), clampAbs_eq]
  · unfold correct
    dsimp only
    split <;> exact clampAbs_bound _ _
  · exact fun hi => (correct_bounded period authority e hi).1

/-- Settles O49: limits, conversion and motion, each from its equation. -/
theorem measures : Obligations.Measures := by
  refine ⟨fun r v => ⟨fun hp => ⟨torqueLimitOf_absent hp, overspeedLimitOf_absent hp⟩, fun hp =>
      ⟨torqueLimitOf_unrated hp, fun _ => torqueLimitOf_rated hp, overspeedLimitOf_unrated hp,
        fun _ _ hv hq => overspeedLimitOf_rated hp hv hq⟩⟩,
    fun r v m => ⟨surfaceSpeed_of_invalid m, fun n q hn ht hv hm _ hq => surfaceSpeed_of_valid hn ht hv hm hq⟩,
    fun s i => ⟨fun v hl hv => ?_, fun hl => ?_, rfl⟩⟩
  · rw [motionStage_station, updateMotion_of_running hl _ _ hv]
    exact ⟨rfl, ringAccel_pushRing _ _ _ _⟩
  · rw [motionStage_station, updateMotion_of_resting hl]

end Sys2Proof.Proofs
end

section
/-! SUPPORT. The vehicle force by its four cases, and whose speed a station's forces take (R31 to R38). -/

namespace Sys2Proof.Machine

/-! ## The rows and their order -/

theorem roundDiv_nonneg {n : Int} (h : 0 ≤ n) (d : Nat) : 0 ≤ roundDiv n d := by
  obtain ⟨m, rfl⟩ := Int.eq_ofNat_of_zero_le h
  rw [roundDiv_natCast]
  exact Int.natCast_nonneg _

/-- A quotient that is exact is the rounded one. -/
theorem roundDiv_mul_cancel (z : Int) {d : Nat} (hd : 0 < d) : roundDiv (z * d) d = z :=
  roundDiv_eq_of_roundsTo ⟨by simp, fun h => by simp at h; omega⟩

section Rows

variable {t : RoadTable} {first last a b : RoadRow} {s j : Nat}

theorem row_le_of_le (h : t.rows.Pairwise fun a b => a.speed < b.speed) {i j : Nat} {a b : RoadRow}
    (ha : t.rows[i]? = some a) (hb : t.rows[j]? = some b) (hij : i ≤ j) : a.speed ≤ b.speed := by
  obtain ⟨hi, rfl⟩ := List.getElem?_eq_some_iff.1 ha
  obtain ⟨hj, rfl⟩ := List.getElem?_eq_some_iff.1 hb
  rcases Nat.eq_or_lt_of_le hij with rfl | hlt
  · exact Nat.le_refl _
  · exact Nat.le_of_lt (List.pairwise_iff_getElem.1 h i j hi hj hlt)

theorem row_lt_of_lt (h : t.rows.Pairwise fun a b => a.speed < b.speed) {i j : Nat} {a b : RoadRow}
    (ha : t.rows[i]? = some a) (hb : t.rows[j]? = some b) (hij : i < j) : a.speed < b.speed := by
  obtain ⟨hi, rfl⟩ := List.getElem?_eq_some_iff.1 ha
  obtain ⟨hj, rfl⟩ := List.getElem?_eq_some_iff.1 hb
  exact List.pairwise_iff_getElem.1 h i j hi hj hij

theorem first_lt_last (h : RoadFits t) (hfirst : t.rows.head? = some first) (hlast : t.rows.getLast? = some last) :
    first.speed < last.speed := by
  rw [List.head?_eq_getElem?] at hfirst
  rw [List.getLast?_eq_getElem?] at hlast
  exact row_lt_of_lt h.ascending hfirst hlast (by have := h.count; omega)

/-- R34: the four cases. -/
theorem vehicleForce_eq (hfirst : t.rows.head? = some first) (hlast : t.rows.getLast? = some last) :
    vehicleForce t s = if s ≤ t.band then (0 : Int) else if s ≤ first.speed * 1000 then (first.force : Int)
      else if last.speed * 1000 ≤ s then (last.force : Int)
      else if underBreakpointsAboveBand t first s && Config.firstRowAboveBand then (first.force : Int)
      else interpolate s t.rows := by
  rw [vehicleForce, hfirst, hlast]

/-- R35: the interpolation at a speed in the pair of rows `a` and `b`. -/
def between (a b : RoadRow) (s : Nat) : Int :=
  roundDiv (a.force * ((b.speed : Int) * 1000 - s) + b.force * ((s : Int) - a.speed * 1000))
    ((b.speed - a.speed) * 1000)

theorem interpolate_cons (a b : RoadRow) (rest : List RoadRow) (s : Nat) :
    interpolate s (a :: b :: rest) = if s < b.speed * 1000 then between a b s else interpolate s (b :: rest) := by
  have hnum : (a.force : Int) * (((b.speed * 1000 : Nat) : Int) - (a.speed * 1000 : Nat)) +
      ((b.force : Int) - a.force) * ((s : Int) - (a.speed * 1000 : Nat)) =
      a.force * ((b.speed : Int) * 1000 - s) + b.force * ((s : Int) - a.speed * 1000) := by
    push_cast
    ring
  rw [interpolate, hnum, between, Nat.sub_mul]

/-- R35: the pair of rows that holds the speed. -/
theorem interpolate_of_pair {rows : List RoadRow} (hrows : rows.Pairwise fun a b => a.speed < b.speed)
    (ha : rows[j]? = some a) (hb : rows[j + 1]? = some b) (hlo : a.speed * 1000 ≤ s) (hhi : s < b.speed * 1000) :
    interpolate s rows = between a b s := by
  induction j generalizing rows with
  | zero =>
    match rows, ha, hb with
    | x :: y :: rest, ha, hb =>
      cases ha
      cases hb
      rw [interpolate_cons, if_pos hhi]
  | succ j ih =>
    match rows, ha, hb with
    | x :: y :: rest, ha, hb =>
      have htail := (List.pairwise_cons.1 hrows).2
      have hy : y.speed ≤ a.speed := by
        rcases Nat.eq_zero_or_pos j with rfl | hj
        · cases ha
          exact Nat.le_refl _
        · refine Nat.le_of_lt ((List.pairwise_cons.1 htail).1 a (List.mem_of_getElem? (i := j - 1) ?_))
          rw [← ha]
          obtain ⟨k, rfl⟩ : ∃ k, j = k + 1 := ⟨j - 1, by omega⟩
          rfl
      rw [interpolate_cons, if_neg (by omega), ih htail ha hb]

/-- R35: between two forces the interpolation stays within the greatest. -/
theorem between_bounds {f : Nat} (ha : a.force ≤ f) (hb : b.force ≤ f) (hlo : a.speed * 1000 ≤ s)
    (hhi : s < b.speed * 1000) : 0 ≤ between a b s ∧ between a b s ≤ f := by
  obtain ⟨x, rfl⟩ : ∃ x, s = a.speed * 1000 + x := ⟨s - a.speed * 1000, by omega⟩
  obtain ⟨y, hy⟩ : ∃ y, b.speed * 1000 = a.speed * 1000 + x + y := 
    ⟨b.speed * 1000 - (a.speed * 1000 + x), by omega⟩
  have hnum : a.force * ((b.speed : Int) * 1000 - (a.speed * 1000 + x : Nat)) +
      b.force * (((a.speed * 1000 + x : Nat) : Int) - a.speed * 1000) = ((a.force * y + b.force * x : Nat) : Int) := by
    have hy' : (b.speed : Int) * 1000 = a.speed * 1000 + x + y := by exact_mod_cast hy
    rw [hy']
    push_cast
    ring
  have hden : (b.speed - a.speed) * 1000 = x + y := by rw [Nat.sub_mul, hy]; omega
  have hle : a.force * y + b.force * x ≤ (x + y) * f := by nlinarith
  have hf : (a.force * y + b.force * x : Nat) ≤ (x + y) * f := hle
  rw [between, hnum, hden]
  have hnonneg := roundDiv_nonneg (n := ((a.force * y + b.force * x : Nat) : Int)) (Int.natCast_nonneg _) (x + y)
  have := roundDiv_natAbs_le (n := ((a.force * y + b.force * x : Nat) : Int)) (d := x + y) (b := f)
    (by rwa [Int.natAbs_natCast])
  omega

theorem interpolate_bounds {f : Nat} {rows : List RoadRow} (hrows : ∀ r ∈ rows, r.force ≤ f)
    (hlo : ∀ r, rows.head? = some r → r.speed * 1000 ≤ s) :
    0 ≤ interpolate s rows ∧ interpolate s rows ≤ f := by
  induction rows with
  | nil => simp [interpolate]
  | cons a rows ih =>
    cases rows with
    | nil =>
      have := hrows a List.mem_cons_self
      simp only [interpolate]
      omega
    | cons b rest =>
      rw [interpolate_cons]
      split
      case isTrue hhi => exact between_bounds (hrows a (by simp)) (hrows b (by simp)) (hlo a rfl) hhi
      case isFalse hge =>
        refine ih (fun r hr => hrows r (List.mem_cons_of_mem _ hr)) fun r hr => ?_
        cases hr
        omega

theorem vehicleForce_bounds (h : RoadFits t) (hfirst : t.rows.head? = some first)
    (hlast : t.rows.getLast? = some last) : 0 ≤ vehicleForce t s ∧ vehicleForce t s ≤ 30000 := by
  have hforce (r : RoadRow) (hr : r ∈ t.rows) : r.force ≤ 30000 := (h.row r hr).2.2
  have hf := hforce first (List.mem_of_mem_head? hfirst)
  have hl := hforce last (List.mem_of_mem_getLast? hlast)
  rw [vehicleForce_eq hfirst hlast]
  split_ifs
  case pos => omega
  case pos => omega
  case pos => omega
  case pos => omega
  case neg hs _ _ =>
    refine interpolate_bounds hforce fun r hr => ?_
    cases hfirst.symm.trans hr
    omega

/-- R31: between breakpoints, no breakpoint above the band is at or below the speed. -/
theorem underBreakpointsAboveBand_iff (h : RoadFits t) (ha : t.rows[j]? = some a) (hb : t.rows[j + 1]? = some b)
    (hlo : a.speed * 1000 ≤ s) (hhi : s < b.speed * 1000) :
    underBreakpointsAboveBand t first s = true ↔ first.speed * 1000 < t.band ∧ a.speed * 1000 ≤ t.band := by
  simp only [underBreakpointsAboveBand, Bool.and_eq_true, decide_eq_true_eq, List.all_eq_true, Bool.or_eq_true]
  refine and_congr_right fun _ => ⟨fun hall => ?_, fun hband r hr => ?_⟩
  · exact (hall a (List.mem_of_getElem? ha)).resolve_right (Nat.not_lt.2 hlo)
  · obtain ⟨i, hi⟩ := List.getElem?_of_mem hr
    rcases le_or_gt i j with hij | hij
    · exact .inl ((Nat.mul_le_mul_right _ (row_le_of_le h.ascending hi ha hij)).trans hband)
    · exact .inr (hhi.trans_le (Nat.mul_le_mul_right _ (row_le_of_le h.ascending hb hi hij)))

theorem vehicleForce_of_pair (h : RoadFits t) (hfirst : t.rows.head? = some first)
    (hlast : t.rows.getLast? = some last) (ha : t.rows[j]? = some a) (hb : t.rows[j + 1]? = some b)
    (hband : t.band < s) (hs : first.speed * 1000 < s) (hlo : a.speed * 1000 ≤ s) (hhi : s < b.speed * 1000) :
    vehicleForce t s =
      if (first.speed * 1000 < t.band ∧ a.speed * 1000 ≤ t.band) ∧ Config.firstRowAboveBand = true
      then (first.force : Int) else between a b s := by
  have hle : b.speed ≤ last.speed := by
    rw [List.getLast?_eq_getElem?] at hlast
    obtain ⟨hj, -⟩ := List.getElem?_eq_some_iff.1 hb
    exact row_le_of_le h.ascending hb hlast (by omega)
  rw [vehicleForce_eq hfirst hlast, if_neg (by omega), if_neg (by omega), if_neg (by omega),
    interpolate_of_pair h.ascending ha hb hlo hhi]
  exact if_congr (by rw [Bool.and_eq_true, underBreakpointsAboveBand_iff h ha hb hlo hhi]) rfl rfl

theorem between_first (hlt : a.speed < b.speed) : between a b (a.speed * 1000) = a.force := by
  have hnum : a.force * ((b.speed : Int) * 1000 - (a.speed * 1000 : Nat)) +
      b.force * (((a.speed * 1000 : Nat) : Int) - a.speed * 1000) =
      a.force * (((b.speed - a.speed) * 1000 : Nat) : Int) := by
    rw [Nat.cast_mul, Nat.cast_mul, Nat.cast_sub hlt.le]
    push_cast
    ring
  rw [between, hnum, roundDiv_mul_cancel _ (by omega)]

end Rows

/-! ## Shares and inertia (R36, R37) -/

theorem roadLoadForce_neg (t : RoadTable) (share : Nat) (v : Int) :
    roadLoadForce t share (-v) = -roadLoadForce t share v := by
  rw [roadLoadForce, roadLoadForce, Int.natAbs_neg, Int.sign_neg, mul_neg]

theorem roadLoadForce_of_pos (t : RoadTable) (share : Nat) {v : Int} (hv : 0 < v) :
    roadLoadForce t share v = roundDiv (vehicleForce t v.natAbs * share) 1024 := by
  rw [roadLoadForce, Int.sign_eq_one_of_pos hv, mul_one]

/-! ## Whose speed a station's forces take (R32, R33, R38) -/

section Kinematics

variable {s : State} {i : Fin 4}

theorem groupOf_of_unique {g : Fin 2} (h : isMember (s.store.groups.get g) i = true)
    (hunique : ∀ g', isMember (s.store.groups.get g') i = true → g' = g) : groupOf s.store i = some g := by
  fin_cases g
  · exact if_pos h
  · exact (if_neg fun h0 => absurd (hunique 0 h0) (by decide)).trans (if_pos h)

theorem isMember_of_groupOf {g : Fin 2} (h : groupOf s.store i = some g) :
    isMember (s.store.groups.get g) i = true := by
  unfold groupOf at h
  split at h
  case isTrue h0 => cases h; exact h0
  case isFalse =>
    split at h
    case isTrue h1 => cases h; exact h1
    case isFalse => cases h

theorem kinematics_of_member {g : Fin 2} (hpresent : (s.store.stations.get i).present = true)
    (hlive : liveOrStale (s.station i) = true) (hg : isMember (s.store.groups.get g) i = true)
    (hengaged : engaged (s.group g) = true)
    (hunique : ∀ g', isMember (s.store.groups.get g') i = true → g' = g) {z : Int}
    (hz : (s.group g).reference = some z) : kinematics s i = some (z, (s.group g).refAccel) := by
  simp [kinematics, hpresent, hlive, engagedGroupOf, groupOf_of_unique hg hunique, hengaged, hz]

theorem engagedGroupOf_eq_none
    (h : ∀ g, ¬ (isMember (s.store.groups.get g) i = true ∧ engaged (s.group g) = true)) :
    engagedGroupOf s i = none := by
  unfold engagedGroupOf
  cases hg : groupOf s.store i with
  | none => rfl
  | some g => exact if_neg fun he => h g ⟨isMember_of_groupOf hg, he⟩

theorem kinematics_of_own (hpresent : (s.store.stations.get i).present = true)
    (hlive : liveOrStale (s.station i) = true)
    (h : ∀ g, ¬ (isMember (s.store.groups.get g) i = true ∧ engaged (s.group g) = true)) {v : Int}
    (hv : (s.station i).speed = some v) : kinematics s i = some (v, (s.station i).accel) := by
  simp [kinematics, hpresent, hlive, engagedGroupOf_eq_none h, hv]

theorem gatedForces_of_gated (h : s.demand.prevMode ≠ .road ∨ (s.store.stations.get i).present = false ∨
    liveOrStale (s.station i) = false) : gatedForces s i = (0, 0) := by
  have hnone (hn : (s.store.stations.get i).present = false ∨ liveOrStale (s.station i) = false) :
      kinematics s i = none :=
    if_neg fun hc => by rcases hn with hn | hn <;> simp [hn] at hc
  unfold gatedForces
  rcases h with hmode | hn
  · cases hm : s.demand.prevMode <;> simp_all
  · rw [hnone hn]
    cases s.demand.prevMode <;> rfl

theorem gatedForces_of_road (h : s.demand.prevMode = .road) {v a : Int} (hk : kinematics s i = some (v, a)) :
    gatedForces s i = (roadLoadForce s.store.road (s.store.stations.get i).share v,
      inertiaForce s.demand.mass (s.store.stations.get i).share (s.store.stations.get i).mechMass a) := by
  rw [gatedForces, h, hk]

end Kinematics

end Sys2Proof.Machine
end

section
/-! PROOF. Road load and inertia. -/

namespace Sys2Proof.Proofs

open Sys2Proof.Machine

/-- Settles O48: the vehicle force by the pair of rows that holds the speed, and the station's kinematics. -/
theorem roadLoad : Obligations.RoadLoad := by
  refine ⟨fun t first last s hfits hfirst hlast => ⟨fun hs => ?_, fun hb hs => ?_, fun hb hs => ?_,
    fun j a b ha hb hband hs hlo hhi => ?_, vehicleForce_bounds hfits hfirst hlast, fun share v hv => ?_,
    fun mass share mech a => ?_, fun force radius => roundsTo_roundDiv (by decide)⟩, fun s i => ?_⟩
  · rw [vehicleForce_eq hfirst hlast, if_pos hs]
  · rw [vehicleForce_eq hfirst hlast, if_neg (by omega), if_pos hs]
  · have := first_lt_last hfits hfirst hlast
    rw [vehicleForce_eq hfirst hlast, if_neg (by omega), if_neg (by omega), if_pos hs]
  · have hlt := row_lt_of_lt hfits.ascending ha hb (Nat.lt_succ_self j)
    have hforce := vehicleForce_of_pair hfits hfirst hlast ha hb hband hs hlo hhi
    refine ⟨fun habove hconfig => hforce.trans (if_pos ⟨habove, hconfig⟩), fun hnot => ?_, fun heq => ?_⟩
    · rw [hforce, if_neg fun hc => hnot.elim (fun h => h hc.1) fun h => absurd (h.symm.trans hc.2) (by decide)]
      exact roundsTo_roundDiv (by omega)
    · rw [hforce, if_neg fun hc => by omega, heq, between_first hlt]
  · refine ⟨fun hpos => ?_, roadLoadForce_neg .., fun h0 => ?_, ?_⟩
    · rw [roadLoadForce_of_pos _ _ hpos, hv]
      exact roundsTo_roundDiv (by decide)
    · rw [h0, roadLoadForce, Int.sign_zero, mul_zero]
    · rw [roadLoadForce, Nat.cast_zero, mul_zero, roundDiv_zero, zero_mul]
  · have := roundsTo_roundDiv (n := (((mass * share : Nat) : Int) - (1024 * mech : Nat)) * a) (d := 1024000)
      (by decide)
    push_cast at this
    exact this
  · refine ⟨gatedForces_of_gated, fun hroad hpresent hlive =>
      ⟨fun g z hmember hunique hz => ?_, fun v hnone hv => ?_⟩⟩
    · exact gatedForces_of_road hroad (kinematics_of_member hpresent hlive hmember.1 hmember.2 hunique hz)
    · exact gatedForces_of_road hroad (kinematics_of_own hpresent hlive hnone hv)

end Sys2Proof.Proofs
end

section
/-! SUPPORT. Assembly: the source and the target of each station, the clamp and the slew, and the DIRECTs counted
down (R71 to R78, R83). -/

namespace Sys2Proof.Machine

variable {s : State} {forces : Four (Int × Int)} {probe : Four Int} {i : Fin 4}

/-! ## Sources (R72) and targets (R74, R75) -/

/-- R72: what forces SAFE. -/
def SafeForced (s : State) (i : Fin 4) : Prop :=
  s.mgmt.mode = .config ∨ s.pacing.state = .halted ∨ liveOrStale (s.station i) = false ∨
    stationSegState s i ≠ some .up

theorem forcedSafe_iff : forcedSafe s i = true ↔ SafeForced s i := by
  simp [forcedSafe, SafeForced, or_assoc]

theorem sourceOf_of_forced (h : SafeForced s i) : sourceOf s i = .safe := if_pos (forcedSafe_iff.2 h)

theorem sourceOf_of_free (h : ¬ SafeForced s i) :
    sourceOf s i = if (s.direct i).active then .direct else .computed :=
  if_neg fun hf => h (forcedSafe_iff.1 hf)

theorem groupOf_eq_none_iff : groupOf s.store i = none ↔ ∀ g, isMember (s.store.groups.get g) i = false := by
  rw [Fin.forall_fin_two]
  unfold groupOf
  split_ifs with h0 h1
  · simp [Two.get, h0]
  · simp [Two.get, h1]
  · simp [Two.get, h0, h1]

/-- R74: the correction force of a station, from those of the groups that hold it. -/
theorem lockForce_eq {lock : Int} (hnone : (∀ g, isMember (s.store.groups.get g) i = false) → lock = 0)
    (hmember : ∀ g, isMember (s.store.groups.get g) i = true → lock = (s.group g).force.get i) :
    lockForce s i = lock := by
  unfold lockForce
  cases hg : groupOf s.store i with
  | some g => exact (hmember g (isMember_of_groupOf hg)).symm
  | none => exact (hnone (groupOf_eq_none_iff.1 hg)).symm

/-! ## Clamp and slew (R76, R77) -/

section Slew

variable {slew : Nat} {memory clamped : Int}

theorem slewed_of_within (h : |clamped - memory| ≤ slew) : slewed slew memory clamped = (clamped, false) :=
  if_pos (by rw [Int.abs_eq_natAbs] at h; omega)

theorem slewed_of_beyond (h : slew < |clamped - memory|) : slewed slew memory clamped =
    (if memory < clamped then memory + slew else memory - slew, true) := by
  rw [slewed, if_neg (by rw [Int.abs_eq_natAbs] at h; omega)]
  split <;> rfl

end Slew

/-- R72, R76 to R78: the set-point of a station that nothing forces SAFE. -/
theorem setPointOf_of_free (h : ¬ SafeForced s i) : setPointOf s forces probe i =
    drivenSetPoint (s.station i).torqueLimit (s.store.stations.get i).slew (s.station i).slewMemory
      (if (s.direct i).active then (s.direct i).torque
        else forceToTorque (forceSum s forces probe i) (s.store.stations.get i).radius)
      (if (s.direct i).active then .direct else .computed) s.pacing.serial := by
  rw [setPointOf, sourceOf_of_free h]
  cases (s.direct i).active <;> rfl

theorem setPointOf_serial : (setPointOf s forces probe i).serial = s.pacing.serial := by
  unfold setPointOf
  split <;> rfl

theorem setPointOf_source : (setPointOf s forces probe i).source = sourceOf s i := by
  unfold setPointOf
  split
  case h_1 h => exact h.symm
  case h_2 h => exact h.symm
  case h_3 h => exact h.symm

theorem active_of_source (h : sourceOf s i = .direct) : (s.direct i).active = true := by
  by_cases hf : SafeForced s i
  · rw [sourceOf_of_forced hf] at h
    cases h
  · rw [sourceOf_of_free hf] at h
    cases hd : (s.direct i).active with
    | true => rfl
    | false => simp [hd] at h

/-! ## DIRECTs counted down (R83) -/

/-- R83: a DIRECT after one more set-point. -/
def counted (d : Direct) : Direct :=
  { active := decide (1 < d.remaining), torque := d.torque, remaining := d.remaining - 1,
    endCause := if d.remaining ≤ 1 then .expired else d.endCause }

/-- R83: whether the set-point a station has is of its DIRECT. -/
def driven (s : State) (i : Fin 4) : Bool := decide ((s.setpoints.get i).source = .direct) && (s.direct i).active

/-- R83: the events of the DIRECTs that expire. -/
def expiries (s : State) (l : List (Fin 4)) : List EventBody :=
  l.filterMap fun j => if driven s j ∧ (s.direct j).remaining ≤ 1 then some (.direct j false) else none

theorem expiries_cons (j : Fin 4) (l : List (Fin 4)) : expiries s (j :: l) = expiries s [j] ++ expiries s l := by
  unfold expiries
  simp only [List.filterMap_cons, List.filterMap_nil]
  split <;> rfl

theorem expiries_one (i : Fin 4) : expiries s [i] =
    if driven s i = true ∧ (s.direct i).remaining ≤ 1 then [.direct i false] else [] := by
  unfold expiries
  rw [List.filterMap_cons, List.filterMap_nil]
  split_ifs <;> rfl

theorem countDirect_of_idle (h : driven s i = false) : countDirect s i = s := by
  refine if_neg fun hc => ?_
  simp [driven, hc.1, hc.2] at h

theorem countDirect_of_last (h : driven s i = true) (hr : (s.direct i).remaining ≤ 1) :
    countDirect s i = writeEvent (.direct i false) (s.setDirect i (counted (s.direct i))) := by
  obtain ⟨hsource, hactive⟩ : (s.setpoints.get i).source = .direct ∧ (s.direct i).active = true := by
    simpa [driven] using h
  have hcounted : counted (s.direct i) =
      { s.direct i with active := false, remaining := 0, endCause := .expired } := by
    rw [counted, if_pos hr, decide_eq_false (Nat.not_lt.2 hr), Nat.sub_eq_zero_of_le hr]
  rw [countDirect, if_pos ⟨hsource, hactive⟩]
  dsimp only
  rw [State.direct_setDirect, if_pos rfl, if_pos (Nat.sub_eq_zero_of_le hr), hcounted,
    endDirect_of_active _ (by simpa using hactive)]
  rw [State.direct_setDirect, if_pos rfl, State.setDirect, setDirects_setDirects, State.setDirects_directs,
    Four.set_set]
  rfl

theorem countDirect_of_more (h : driven s i = true) (hr : 1 < (s.direct i).remaining) :
    countDirect s i = s.setDirect i (counted (s.direct i)) := by
  obtain ⟨hsource, hactive⟩ : (s.setpoints.get i).source = .direct ∧ (s.direct i).active = true := by
    simpa [driven] using h
  have hcounted : counted (s.direct i) = { s.direct i with remaining := (s.direct i).remaining - 1 } := by
    rw [counted, if_neg (Nat.not_le.2 hr), decide_eq_true hr]
    exact congrArg (fun b => { s.direct i with active := b, remaining := (s.direct i).remaining - 1 }) hactive.symm
  rw [countDirect, if_pos ⟨hsource, hactive⟩]
  dsimp only
  rw [State.direct_setDirect, if_pos rfl, if_neg (Nat.sub_ne_zero_of_lt hr), hcounted]

theorem countDirect_eq (i : Fin 4) : countDirect s i =
    (writeEvents (expiries s [i]) s).setDirects
      (s.directs.set i (if driven s i then counted (s.direct i) else s.direct i)) := by
  rw [expiries_one]
  cases hd : driven s i with
  | false =>
    have hset : s.directs.set i (s.direct i) = s.directs :=
      Four.ext_get fun j => by by_cases hj : j = i <;> simp [hj, State.direct]
    rw [countDirect_of_idle hd, if_neg Bool.false_ne_true, if_neg fun hc => Bool.false_ne_true hc.1, hset]
    rfl
  | true =>
    rw [if_pos rfl]
    rcases Nat.lt_or_ge 1 (s.direct i).remaining with hr | hr
    · rw [countDirect_of_more hd hr, if_neg fun hc => Nat.not_le.2 hr hc.2]
      rfl
    · rw [countDirect_of_last hd hr, if_pos ⟨rfl, hr⟩, State.setDirect, writeEvent_setDirects]
      rfl

theorem foldl_countDirect {l : List (Fin 4)} (h : l.Nodup) (s : State) : l.foldl countDirect s =
    (writeEvents (expiries s l) s).setDirects
      (Four.tabulate fun i => if i ∈ l ∧ driven s i = true then counted (s.direct i) else s.direct i) := by
  induction l generalizing s with
  | nil =>
    have hall : (Four.tabulate fun i => if i ∈ ([] : List (Fin 4)) ∧ driven s i = true then counted (s.direct i)
        else s.direct i) = s.directs := Four.ext_get fun j => by simp [State.direct]
    rw [hall]
    rfl
  | cons j l ih =>
    obtain ⟨hj, hl⟩ := List.nodup_cons.1 h
    have hdirect (i : Fin 4) : (countDirect s j).direct i =
        if i = j then if driven s j then counted (s.direct j) else s.direct j else s.direct i := by
      rw [countDirect_eq]
      exact Four.get_set ..
    have hpoints : (countDirect s j).setpoints = s.setpoints := by
      rw [countDirect_eq, writeEvents_eq_setReport]
      rfl
    have hother {i : Fin 4} (hi : i ≠ j) : (countDirect s j).direct i = s.direct i ∧
        driven (countDirect s j) i = driven s i := by
      have hsame : (countDirect s j).direct i = s.direct i := (hdirect i).trans (if_neg hi)
      exact ⟨hsame, by rw [driven, hsame, hpoints, driven]⟩
    have hexpiries : expiries (countDirect s j) l = expiries s l := by
      refine List.filterMap_congr fun i hi => ?_
      obtain ⟨hd, hdr⟩ := hother (i := i) fun he => hj (he ▸ hi)
      rw [hd, hdr]
    have hdirects : (Four.tabulate fun i => if i ∈ l ∧ driven (countDirect s j) i = true then
          counted ((countDirect s j).direct i) else (countDirect s j).direct i) =
        Four.tabulate fun i => if i ∈ j :: l ∧ driven s i = true then counted (s.direct i) else s.direct i := by
      refine congrArg Four.tabulate (funext fun i => ?_)
      by_cases hi : i = j
      · subst hi
        rw [if_neg fun hc => hj hc.1, hdirect, if_pos rfl]
        exact if_congr (by simp) rfl rfl
      · obtain ⟨hd, hdr⟩ := hother hi
        rw [hd, hdr]
        exact if_congr (by simp [hi]) rfl rfl
    rw [List.foldl_cons, ih hl, hexpiries, hdirects, countDirect_eq, writeEvents_setDirects, setDirects_setDirects,
      expiries_cons j l, ← writeEvents_append]

/-! ## Assembly as a whole -/

theorem storeSetPoints_station (points : Four SetPoint) (s : State) (i : Fin 4) :
    (storeSetPoints points s).station i = { s.station i with slewMemory := (points.get i).torque } :=
  Four.get_tabulate ..

/-- R71 to R83: assembly writes set-points, slew memories, DIRECTs and the events of those that expire. -/
theorem assembly_eq (forces : Four (Int × Int)) (probe : Four Int) (s : State) : assembly forces probe s =
    { s with
      setpoints := Four.tabulate (setPointOf s forces probe),
      stations := Four.tabulate fun i => { s.station i with slewMemory := (setPointOf s forces probe i).torque },
      directs := Four.tabulate fun i => if sourceOf s i = .direct then counted (s.direct i) else s.direct i,
      report := (writeEvents (four.filterMap fun j =>
        if sourceOf s j = .direct ∧ (s.direct j).remaining ≤ 1 then some (.direct j false)
        else none) s).report } := by
  have hdriven (i : Fin 4) : driven (storeSetPoints (Four.tabulate (setPointOf s forces probe)) s) i = true ↔
      sourceOf s i = .direct := by
    have hpoint : ((storeSetPoints (Four.tabulate (setPointOf s forces probe)) s).setpoints.get i) =
        setPointOf s forces probe i := Four.get_tabulate ..
    rw [driven, hpoint, setPointOf_source, Bool.and_eq_true, decide_eq_true_eq]
    exact and_iff_left_of_imp active_of_source
  have hdirects : (Four.tabulate fun i =>
      if i ∈ four ∧ driven (storeSetPoints (Four.tabulate (setPointOf s forces probe)) s) i = true then
        counted (s.direct i) else s.direct i) =
      Four.tabulate fun i => if sourceOf s i = .direct then counted (s.direct i) else s.direct i :=
    congrArg Four.tabulate (funext fun i => if_congr (by rw [hdriven]; exact and_iff_right (mem_four i)) rfl rfl)
  have hexpiries : expiries (storeSetPoints (Four.tabulate (setPointOf s forces probe)) s) four =
      four.filterMap fun j =>
        if sourceOf s j = .direct ∧ (s.direct j).remaining ≤ 1 then some (.direct j false) else none :=
    List.filterMap_congr fun j _ => if_congr (and_congr_left' (hdriven j)) rfl rfl
  rw [assembly, foldl_countDirect (by decide), hexpiries]
  refine (congrArg (State.setDirects _) hdirects).trans ?_
  have hstations : (storeSetPoints (Four.tabulate (setPointOf s forces probe)) s).stations =
      Four.tabulate fun i => { s.station i with slewMemory := (setPointOf s forces probe i).torque } :=
    Four.ext_get fun i => by
      rw [Four.get_tabulate, ← Four.get_tabulate (setPointOf s forces probe) i]
      exact storeSetPoints_station ..
  have hreport (bs : List EventBody) :
      (writeEvents bs (storeSetPoints (Four.tabulate (setPointOf s forces probe)) s)).report =
        (writeEvents bs s).report := writeEvents_report_congr bs rfl rfl
  rw [writeEvents_eq_setReport, hreport, ← hstations]
  rfl

theorem assembly_setpoint (forces : Four (Int × Int)) (probe : Four Int) (s : State) (i : Fin 4) :
    (assembly forces probe s).setpoints.get i = setPointOf s forces probe i := by
  rw [assembly_eq]
  exact Four.get_tabulate ..

theorem assembly_station (forces : Four (Int × Int)) (probe : Four Int) (s : State) (i : Fin 4) :
    (assembly forces probe s).station i =
      { s.station i with slewMemory := (setPointOf s forces probe i).torque } := by
  rw [assembly_eq]
  exact Four.get_tabulate ..

theorem assembly_direct (forces : Four (Int × Int)) (probe : Four Int) (s : State) (i : Fin 4) :
    (assembly forces probe s).direct i = if sourceOf s i = .direct then counted (s.direct i) else s.direct i := by
  rw [assembly_eq]
  exact Four.get_tabulate ..

/-- R71 to R83: what assembly does, by the set-points it writes. -/
theorem assembly_by_setpoints (forces : Four (Int × Int)) (probe : Four Int) (s : State) :
    let u := assembly forces probe s
    u.report = (writeEvents (four.filterMap fun j =>
      if (u.setpoints.get j).source = .direct ∧ (s.direct j).remaining ≤ 1 then
        some (.direct j false) else none) s).report ∧
    u = { s with setpoints := u.setpoints, stations := u.stations, directs := u.directs, report := u.report } := by
  intro u
  have hsource (j : Fin 4) : (u.setpoints.get j).source = sourceOf s j := by
    rw [assembly_setpoint, setPointOf_source]
  refine ⟨?_, ?_⟩
  · simp only [hsource]
    exact (congrArg State.report (assembly_eq forces probe s) :)
  · simp only [u, assembly_eq]

end Sys2Proof.Machine
end

section
/-! SUPPORT. The stages of the computation point: what each leaves alone, the demand taken or aged, and the
cycle's UPLINK (R24 to R28, R106, R164). -/

namespace Sys2Proof.Machine

variable {s t u : State}

/-! ## What intake, the groups' stages and the probe stage leave alone -/

/-- A station before and after the stages: its init values, limits and slew memory stay, and so does FAULTED. -/
structure StationStaged (x y : StationRt) : Prop where
  init : y.init = x.init
  torqueLimit : y.torqueLimit = x.torqueLimit
  overspeedLimit : y.overspeedLimit = x.overspeedLimit
  slewMemory : y.slewMemory = x.slewMemory
  faulted : x.state = .faulted → y.state = .faulted

theorem StationStaged.refl (x : StationRt) : StationStaged x x := ⟨rfl, rfl, rfl, rfl, id⟩

theorem StationStaged.trans {x y z : StationRt} (h : StationStaged x y) (h' : StationStaged y z) :
    StationStaged x z :=
  ⟨h'.init.trans h.init, h'.torqueLimit.trans h.torqueLimit, h'.overspeedLimit.trans h.overspeedLimit,
    h'.slewMemory.trans h.slewMemory, h'.faulted ∘ h.faulted⟩

theorem IntakeMoves.staged {x y : StationRt} (h : IntakeMoves x y) : StationStaged x y := by
  obtain ⟨hstate, ⟨hinit, htorque, hover⟩, -, -, -, hslew⟩ := h
  refine ⟨hinit, htorque, hover, hslew, fun hx => ?_⟩
  rcases hstate with hs | ⟨⟨-, hne⟩, -⟩
  · exact hs.trans hx
  · exact absurd hx hne

/-- What the stages from intake to the probe stage keep: a DIRECT ends only with its station FAULTED. -/
structure Staged (s u : State) : Prop where
  frame : u = { s with
    stations := u.stations, groups := u.groups, directs := u.directs, check := u.check, lastCheck := u.lastCheck,
    report := u.report }
  faults : ∀ b, s.report.faults.getLsbD b = true → u.report.faults.getLsbD b = true
  station : ∀ i, StationStaged (s.station i) (u.station i)
  direct : ∀ i, u.direct i = s.direct i ∨ (u.direct i).active = false ∧ (u.station i).state = .faulted
  check : s.check.running = false → u.check.running = false

namespace Staged

theorem refl (s : State) : Staged s s := ⟨rfl, fun _ => id, fun _ => .refl _, fun _ => .inl rfl, id⟩

theorem trans (h : Staged s t) (h' : Staged t u) : Staged s u where
  frame := by rw [h'.frame, h.frame]
  faults b hb := h'.faults b (h.faults b hb)
  station i := (h.station i).trans (h'.station i)
  direct i := by
    rcases h'.direct i with hd | hd
    · rw [hd]
      exact (h.direct i).imp_right fun ⟨ha, hf⟩ => ⟨ha, (h'.station i).faulted hf⟩
    · exact .inr hd
  check hs := h'.check (h.check hs)

/-- A change of the groups, the check and the register alone. -/
theorem of_report {groups : Two GroupRt} {check : CheckContext} {last : LastCheck} {report : Report}
    (h : ∀ b, s.report.faults.getLsbD b = true → report.faults.getLsbD b = true)
    (hc : s.check.running = false → check.running = false) :
    Staged s { s with groups := groups, check := check, lastCheck := last, report := report } :=
  ⟨rfl, h, fun _ => .refl _, fun _ => .inl rfl, hc⟩

theorem setGroup (h : Staged s u) (g : Fin 2) (x : GroupRt) : Staged s (u.setGroup g x) :=
  h.trans (of_report (fun _ => id) id)

theorem setCheck (h : Staged s u) {c : CheckContext} (hc : u.check.running = false → c.running = false) :
    Staged s (u.setCheck c) := h.trans (of_report (fun _ => id) hc)

theorem setLastCheck (h : Staged s u) (c : LastCheck) : Staged s (u.setLastCheck c) :=
  h.trans (of_report (fun _ => id) id)

theorem writeEvent (h : Staged s u) (b : EventBody) : Staged s (writeEvent b u) := by
  refine h.trans ?_
  rw [writeEvent_eq_setReport]
  exact of_report (fun n hn => writeEvent_latched _ n hn) id

theorem latch (h : Staged s u) (f : Flag) : Staged s (latch f u) :=
  h.trans (of_report (fun b hb => by simp [hb]) id)

theorem setStations (h : Staged s u) {x : Four StationRt} (hx : ∀ i, StationStaged (u.station i) (x.get i)) :
    Staged s (u.setStations x) :=
  h.trans ⟨rfl, fun _ => id, hx, fun _ => .inl rfl, id⟩

theorem setStation (h : Staged s u) {i : Fin 4} {x : StationRt} (hx : StationStaged (u.station i) x) :
    Staged s (u.setStation i x) := by
  refine h.setStations fun j => ?_
  rw [Four.get_set]
  split
  case isTrue hj => exact hj ▸ hx
  case isFalse => exact .refl _

theorem setDirect (h : Staged s u) {i : Fin 4} {d : Direct} (hd : d.active = false)
    (hi : (u.station i).state = .faulted) : Staged s (u.setDirect i d) := by
  refine h.trans ⟨rfl, fun _ => id, fun _ => .refl _, fun j => ?_, id⟩
  rw [State.direct_setDirect]
  split
  case isTrue hj => exact .inr ⟨hd, hj ▸ hi⟩
  case isFalse => exact .inl rfl

theorem endDirect (h : Staged s u) {i : Fin 4} (hi : (u.station i).state = .faulted) (c : EndCause) :
    Staged s (endDirect c i u) := by
  unfold Machine.endDirect
  split
  · exact (h.setDirect rfl hi).writeEvent _
  · exact h

end Staged

theorem staged_intakeKeeps (s : State) (i : Fin 4) : IntakeKeeps (Staged s) i where
  station _ _ hx hs := hs.setStation hx.staged
  event _ b hs := hs.writeEvent b
  faulted u r _ hs := by
    have hset : Staged s (u.setStation i { u.station i with state := .faulted, reason := r }) :=
      hs.setStation ⟨rfl, rfl, rfl, rfl, fun _ => rfl⟩
    exact ((hset.latch _).writeEvent _).endDirect (by simp) _

theorem staged_motionStage (h : Staged s u) : Staged s (motionStage u) :=
  h.setStations fun i => by
    rw [Four.get_tabulate, updateMotion]
    split <;> exact ⟨rfl, rfl, rfl, rfl, id⟩

theorem staged_referenceStage (h : Staged s u) (c : Bool) (g : Fin 2) : Staged s (referenceStage c g u) := by
  have htest {u : State} (hu : Staged s u) : Staged s (memberTest g u) := by
    unfold memberTest
    split
    · exact ((hu.setGroup _ _).latch _).writeEvent _
    · exact hu
  have hchange {u : State} (hu : Staged s u) : Staged s (applyReferenceChange c g u) := by
    unfold applyReferenceChange
    split
    · exact (hu.setGroup _ _).writeEvent _
    · exact hu
  unfold referenceStage
  dsimp only
  split
  · exact h
  · exact (hchange (htest h)).setGroup _ _

theorem staged_lockStage (h : Staged s u) (g : Fin 2) : Staged s (lockStage g u) := by
  unfold lockStage
  dsimp only
  split
  · exact h
  · split
    · unfold carryVerdict
      split
      · exact h.setGroup _ _
      · exact (h.setGroup _ _).writeEvent _
      · exact (h.setGroup _ _).writeEvent _
      · exact (((h.setGroup _ _).setGroup _ _).latch _).writeEvent _
    · exact h.setGroup _ _

theorem staged_probeStage (h : Staged s u) : Staged s (probeStage u).1 := by
  have hend {v : State} (hv : Staged s v) (r : CheckResult) (q : CheckReason) (o : CheckOutcome) :
      Staged s (endCheck r q o v) := ((hv.setCheck fun _ => rfl).setLastCheck _).writeEvent _
  unfold probeStage
  split
  · split
    · have hpeak : Staged s (updatePeak u) := h.setCheck id
      dsimp only
      split
      · unfold judgeCheck
        split
        · exact hend hpeak _ _ _
        · exact hend (hpeak.latch _) _ _ _
      · exact hpeak.setCheck id
    · exact hend h _ _ _
  · exact h

/-! ## The demand (R24 to R28) -/

section Demand

theorem loseDemand_of_losing (h : s.store.cell.demandHold < s.demand.age ∧ s.demand.lost = false) :
    loseDemand s = writeEvent (.demand true) (latch .demandLost (s.setDemand { s.demand with lost := true })) :=
  if_pos h

theorem loseDemand_of_kept (h : ¬ (s.store.cell.demandHold < s.demand.age ∧ s.demand.lost = false)) :
    loseDemand s = s := if_neg h

/-- R24, R27: the pending demand taken. -/
theorem demandStage_of_arrived (h : s.port.pendingDemand.arrived = true) :
    let p := s.port.pendingDemand
    demandStage s = (writeEvents (if s.demand.lost then [.demand false] else [])
      { s with
        port := { s.port with pendingDemand := { p with arrived := false } },
        demand := { mode := p.mode, target := p.target, mass := p.mass, age := 0, lost := false, prevMode := p.mode } },
      decide (p.mode ≠ s.demand.prevMode) && (decide (p.mode = .speed) || decide (s.demand.prevMode = .speed))) := by
  intro p
  rw [demandStage, demandIntake, if_pos h, adopt]
  cases hl : s.demand.lost with
  | false => rfl
  | true =>
    dsimp only
    rw [if_pos rfl, keepMode, writeEvent_demand, ← writeEvent_setDemand]
    rfl

/-- R24, R26: the demand in force ages, and is lost beyond the hold. -/
theorem demandStage_of_held (h : s.port.pendingDemand.arrived = false) :
    let age := min (s.demand.age + 1) 255
    let losing := !s.demand.lost && decide (s.store.cell.demandHold < age)
    let mode := if s.demand.lost || losing then DriveMode.coast else s.demand.mode
    demandStage s = (writeEvents (if losing then [.demand true] else [])
      { s with
        demand := { s.demand with age := age, lost := s.demand.lost || losing, prevMode := mode },
        report := { s.report with
          faults := if losing then s.report.faults ||| 0x4 else s.report.faults } },
      decide (mode ≠ s.demand.prevMode) && (decide (mode = .speed) || decide (s.demand.prevMode = .speed))) := by
  intro age losing mode
  have hheld : losing = true ↔ s.store.cell.demandHold < age ∧ s.demand.lost = false := by
    simp [losing, and_comm]
  rw [demandStage, demandIntake, if_neg (Bool.eq_false_iff.1 h), ageDemand]
  rcases Bool.eq_false_or_eq_true losing with hl | hl
  · have hlost : s.demand.lost = false := (hheld.1 hl).2
    have hmode : mode = .coast := by simp [mode, hl]
    rw [loseDemand_of_losing (s := s.setDemand { s.demand with age := bump 255 s.demand.age }) (hheld.1 hl), hmode, hl,
      hlost]
    rw [referenceChange, keepMode, writeEvent_demand, ← writeEvent_setDemand]
    rfl
  · have hkept : ¬ (s.store.cell.demandHold < age ∧ s.demand.lost = false) := fun hc => by simp [hheld.2 hc] at hl
    have hmode : mode = if s.demand.lost then .coast else s.demand.mode := by simp [mode, hl]
    rw [loseDemand_of_kept (s := s.setDemand { s.demand with age := bump 255 s.demand.age }) hkept, hmode, hl,
      Bool.or_false]
    rfl

end Demand

/-! ## The cycle's UPLINK (R164) -/

/-- What the cycle's UPLINK changes. -/
structure UplinkFrame (s u : State) : Prop where
  frame : u = { s with port := u.port, segs := u.segs, mgmt := u.mgmt }
  port : u.port = { s.port with
    clampNotice := u.port.clampNotice, uplinkSkips := u.port.uplinkSkips, tx := u.port.tx }
  mgmt : u.mgmt.mode = s.mgmt.mode ∧ u.mgmt.dropped = s.mgmt.dropped
  seg : ∀ g, u.seg g = { s.seg g with slots := (u.seg g).slots } ∧
    ∀ k, u.slot g k = { s.slot g k with buffer := (u.slot g k).buffer }

theorem uplinkFrame_perCycleUplink (s : State) : UplinkFrame s (perCycleUplink s) := by
  cases h : s.port.tx.sending with
  | true =>
    rw [perCycleUplink_of_sending h]
    exact ⟨rfl, rfl, ⟨rfl, rfl⟩, fun _ => ⟨rfl, fun _ => rfl⟩⟩
  | false =>
    obtain ⟨heq, hsegs⟩ := buffersOnly_emptyReported (cycleItems s) (sendUplink (cycleItems s) s)
    rw [perCycleUplink_of_idle h]
    refine ⟨?_, ?_, ⟨?_, ?_⟩, hsegs⟩
    all_goals rw [heq]; rfl

end Sys2Proof.Machine
end

section
/-! SUPPORT. The computation point as a whole: its stages in their order, and what it changes (R106). -/

namespace Sys2Proof.Machine

variable {s w : State}

/-- R24 to R28: the demand stage, with the reference change it hands on. -/
theorem demandStage_eq (s : State) :
    let p := s.port.pendingDemand
    let age := min (s.demand.age + 1) 255
    let losing := !s.demand.lost && decide (s.store.cell.demandHold < age)
    let mode := if p.arrived then p.mode
      else if s.demand.lost || losing then DriveMode.coast else s.demand.mode
    demandStage s = (writeEvents
      (if p.arrived then (if s.demand.lost then [.demand false] else []) else (if losing then [.demand true] else []))
      { s with
        port := { s.port with pendingDemand := { p with arrived := false } },
        demand := if p.arrived then
            { mode := p.mode, target := p.target, mass := p.mass, age := 0, lost := false, prevMode := p.mode }
          else { s.demand with age := age, lost := s.demand.lost || losing, prevMode := mode },
        report := { s.report with
          faults := if !p.arrived && losing then s.report.faults ||| 0x4 else s.report.faults } },
      decide (mode ≠ s.demand.prevMode) && (decide (mode = .speed) || decide (s.demand.prevMode = .speed))) := by
  intro p age losing mode
  cases h : s.port.pendingDemand.arrived with
  | true =>
    have hp : p.arrived = true := h
    rw [demandStage_of_arrived h]
    simp only [mode, hp, Bool.not_true, Bool.false_and, if_true]
    rfl
  | false =>
    have hp : p.arrived = false := h
    have hport : s.port.pendingDemand = { p with arrived := false } := by rw [← hp]
    rw [demandStage_of_held h]
    simp only [mode, hp, Bool.not_false, Bool.true_and, Bool.false_eq_true, if_false]
    rw [← hport]

theorem writeEvents_latched (bs : List EventBody) {b : Nat} (h : s.report.faults.getLsbD b = true) :
    (writeEvents bs s).report.faults.getLsbD b = true :=
  foldl_invariant (fun u => u.report.faults.getLsbD b = true) _ (fun _ _ hu => writeEvent_latched _ b hu) bs s h

/-- What the stages after the demand's leave, from the state `s` the demand stage leaves. -/
structure Computed (s u : State) : Prop where
  now : u.now = s.now
  pending : u.pending = s.pending
  free : u.free = s.free
  pacing : u.pacing = s.pacing
  store : u.store = s.store
  demand : u.demand = s.demand
  mgmt : u.mgmt.mode = s.mgmt.mode ∧ u.mgmt.dropped = s.mgmt.dropped
  faults : ∀ b, s.report.faults.getLsbD b = true → u.report.faults.getLsbD b = true
  port : u.port = { s.port with
    clampNotice := u.port.clampNotice, uplinkSkips := u.port.uplinkSkips, tx := u.port.tx }
  seg : ∀ g, u.seg g = { s.seg g with slots := (u.seg g).slots } ∧
    ∀ k, u.slot g k = { s.slot g k with buffer := (u.slot g k).buffer }

/-- R71 to R83: what assembly leaves of a state the stages left. -/
theorem assembly_frame (h : Staged s w) (forces : Four (Int × Int)) (probe : Four Int) :
    ∃ setpoints stations groups directs check lastCheck report, assembly forces probe w =
      { s with
        setpoints := setpoints, stations := stations, groups := groups, directs := directs, check := check,
        lastCheck := lastCheck, report := report } ∧
      ∀ b, s.report.faults.getLsbD b = true → report.faults.getLsbD b = true := by
  refine ⟨_, _, _, _, _, _, _, (assembly_eq forces probe w).trans (by rw [h.frame]), fun b hb => ?_⟩
  exact writeEvents_latched _ (h.faults b hb)

theorem computed_of_staged {forces : Four (Int × Int)} {probe : Four Int} (h : Staged s w) :
    Computed s (perCycleUplink (assembly forces probe w)) := by
  obtain ⟨setpoints, stations, groups, directs, check, lastCheck, report, hv, hfaults⟩ :=
    assembly_frame h forces probe
  rw [hv]
  obtain ⟨hframe, hport, hmgmt, hseg⟩ := uplinkFrame_perCycleUplink
    { s with
      setpoints := setpoints, stations := stations, groups := groups, directs := directs, check := check,
      lastCheck := lastCheck, report := report }
  exact {
    now := (congrArg State.now hframe :)
    pending := (congrArg State.pending hframe :)
    free := (congrArg State.free hframe :)
    pacing := (congrArg State.pacing hframe :)
    store := (congrArg State.store hframe :)
    demand := (congrArg State.demand hframe :)
    mgmt := hmgmt
    faults := fun b hb => (congrArg (fun u => u.report.faults.getLsbD b) hframe :).trans (hfaults b hb)
    port := hport
    seg := hseg }

theorem perCycleUplink_station (s : State) (i : Fin 4) : (perCycleUplink s).station i = s.station i :=
  (congrArg (fun u => u.station i) (uplinkFrame_perCycleUplink s).frame :)

theorem perCycleUplink_setpoints (s : State) : (perCycleUplink s).setpoints = s.setpoints :=
  (congrArg State.setpoints (uplinkFrame_perCycleUplink s).frame :)

theorem perCycleUplink_direct (s : State) (i : Fin 4) : (perCycleUplink s).direct i = s.direct i :=
  (congrArg (fun u => u.direct i) (uplinkFrame_perCycleUplink s).frame :)

/-! ## The stages in their order -/

/-- R43: the state the stages up to the references leave, from the state `s` of the demand stage. -/
def measuredFrom (change : Bool) (s : State) : State :=
  referenceStage change 1 (referenceStage change 0 (motionStage (stationIntake s)))

/-- R50 to R97: the lock stages and the probe stage. -/
def probedFrom (s : State) : State × Four Int := probeStage (lockStage 1 (lockStage 0 s))

theorem staged_measuredFrom (change : Bool) (s : State) : Staged s (measuredFrom change s) :=
  staged_referenceStage (staged_referenceStage (staged_motionStage
    (intake_stationIntake (staged_intakeKeeps s) (.refl s))) change 0) change 1

theorem staged_probedFrom (s : State) : Staged s (probedFrom s).1 :=
  staged_probeStage (staged_lockStage (staged_lockStage (.refl s) 0) 1)

/-- R106: the state the computation point takes, with no computation point due any more. -/
def cutPoint (s : State) : State := s.setPacing { s.pacing with cpDue := none }

theorem computePoint_eq {taken : State} {change : Bool} (h : demandStage (cutPoint s) = (taken, change)) :
    computePoint s = perCycleUplink (assembly (Four.tabulate (gatedForces (measuredFrom change taken)))
      (probedFrom (measuredFrom change taken)).2 (probedFrom (measuredFrom change taken)).1) := by
  unfold computePoint driveStages measureStages
  rw [show s.setPacing { s.pacing with cpDue := none } = cutPoint s from rfl, h]
  rfl

theorem computationFalls_of_due {due : Nat} (h : s.pacing.cpDue = some due) (hd : due ≤ s.now) :
    computationFalls s = computePoint s := by
  rw [computationFalls, h]
  exact if_pos hd

end Sys2Proof.Machine
end

section
/-! PROOF. The computation point. -/

namespace Sys2Proof.Proofs

open Sys2Proof.Machine

/-- Settles O46: the demand stage is the state `taken`, and the stages keep what `Staged` and `Computed` say. -/
theorem computationPoint : Obligations.ComputationPoint := by
  intro t due s hdue hnow p age losing mode change taken measured probed
  have hdemand : demandStage (cutPoint (advance t s)) = (taken, change) := demandStage_eq (cutPoint (advance t s))
  obtain ⟨demand, report, htaken⟩ : ∃ demand report, taken = { s with
      now := max s.now t, pacing := { s.pacing with cpDue := none },
      port := { s.port with pendingDemand := { p with arrived := false } }, demand := demand,
      report := report } := ⟨_, _, writeEvents_eq_setReport _ _⟩
  have hlatched : p.arrived = false → losing = true → taken.report.faults.getLsbD 2 = true := fun ha hl =>
    writeEvents_latched _ (by simp [ha, hl])
  clear_value taken
  have hstaged : Staged taken probed.1 := (staged_measuredFrom change taken).trans (staged_probedFrom measured)
  refine ⟨Machine.perCycleUplink (assembly (Four.tabulate (gatedForces measured)) probed.2 probed.1),
    congrArg Host.Outcome.next ((computationFalls_of_due (s := advance t s) hdue hnow).trans
    (computePoint_eq hdemand)), rfl, ?_⟩
  clear_value probed measured
  obtain ⟨hnow', hpending, hfree, hpacing, hstore, hdem, ⟨hmode, hdropped⟩, hfaults, hport, hseg⟩ :=
    computed_of_staged (forces := Four.tabulate (gatedForces measured)) (probe := probed.2) hstaged
  have hpoints (i : Fin 4) := assembly_setpoint (Four.tabulate (gatedForces measured)) probed.2 probed.1 i
  have hserial : probed.1.pacing.serial = s.pacing.serial :=
    (congrArg (fun u => u.pacing.serial) hstaged.frame :).trans (congrArg (fun u => u.pacing.serial) htaken :)
  refine ⟨hnow'.trans (congrArg State.now htaken :), hpending.trans (congrArg State.pending htaken :),
    hfree.trans (congrArg State.free htaken :), hpacing.trans (congrArg State.pacing htaken :),
    hstore.trans (congrArg State.store htaken :), hmode.trans (congrArg (fun u => u.mgmt.mode) htaken :),
    hdropped.trans (congrArg (fun u => u.mgmt.dropped) htaken :), hdem, fun ha hl => hfaults 2 (hlatched ha hl), ?_,
    fun g => ?_, fun i => ?_, fun i => ?_, fun hforced i => ?_⟩
  · rw [hport, (congrArg State.port htaken :)]
  · have hg : taken.seg g = s.seg g := (congrArg (fun u => u.seg g) htaken :)
    have hk (k : Fin 4) : taken.slot g k = s.slot g k := (congrArg (fun u => u.slot g k) htaken :)
    refine ⟨?_, fun k => ?_⟩
    · rw [← hg]
      exact (hseg g).1
    · rw [← hk k]
      exact (hseg g).2 k
  · have hi : taken.station i = s.station i := (congrArg (fun u => u.station i) htaken :)
    obtain ⟨hinit, htorque, hover, -, -⟩ := hstaged.station i
    rw [perCycleUplink_station, assembly_station, ← hi]
    exact ⟨hinit, htorque, hover⟩
  · rw [perCycleUplink_setpoints, perCycleUplink_station, assembly_station, hpoints, setPointOf_serial]
    exact ⟨hserial, rfl⟩
  · have hmode : probed.1.mgmt.mode = s.mgmt.mode :=
      (congrArg (fun u => u.mgmt.mode) hstaged.frame :).trans (congrArg (fun u => u.mgmt.mode) htaken :)
    have hstate : probed.1.pacing.state = s.pacing.state :=
      (congrArg (fun u => u.pacing.state) hstaged.frame :).trans (congrArg (fun u => u.pacing.state) htaken :)
    have hsafe : SafeForced probed.1 i := hforced.imp hmode.trans fun h => .inl (hstate.trans h)
    rw [perCycleUplink_setpoints, hpoints, setPointOf_of_forced (forcedSafe_iff.2 hsafe), hserial]
    rfl

end Sys2Proof.Proofs
end

section
/-! SUPPORT. The limits of a set-point, and the inputs a set-point of a computation point takes (R71 to R78). -/

namespace Sys2Proof.Machine

variable {s w : State} {forces : Four (Int × Int)} {probe : Four Int} {i : Fin 4}

/-! ## The clamp and the slew of a set-point -/

section Driven

variable {limit slew : Nat} {memory target : Int} {source : Source} {serial : BitVec 32}

theorem clampAbs_ne_iff (limit : Nat) (z : Int) : clampAbs limit z ≠ z ↔ limit < z.natAbs := by
  rw [clampAbs_eq]
  omega

theorem slewed_natAbs_le {clamped : Int} (hm : memory.natAbs ≤ limit) (hc : clamped.natAbs ≤ limit) :
    (slewed slew memory clamped).1.natAbs ≤ limit := by
  unfold slewed
  split_ifs <;> dsimp only <;> omega

theorem slewed_step_le (slew : Nat) (memory clamped : Int) :
    ((slewed slew memory clamped).1 - memory).natAbs ≤ slew := by
  unfold slewed
  split_ifs <;> dsimp only <;> omega

theorem slewed_step_of_slewed {clamped : Int} (h : (slewed slew memory clamped).2 = true) :
    ((slewed slew memory clamped).1 - memory).natAbs = slew := by
  unfold slewed at h ⊢
  split_ifs at h ⊢ <;> dsimp only at * <;> omega

theorem slewed_of_not_slewed {clamped : Int} (h : (slewed slew memory clamped).2 = false) :
    (slewed slew memory clamped).1 = clamped := by
  unfold slewed at h ⊢
  split_ifs at h ⊢
  rfl

end Driven

/-! ## What the stages after the references leave of the stations -/

theorem lockStage_stations (g : Fin 2) (s : State) : (lockStage g s).stations = s.stations := by
  unfold lockStage
  dsimp only
  split
  · rfl
  · split
    · unfold carryVerdict
      split <;> simp [groupEvent, breakGroup]
    · rfl

theorem probeStage_stations (s : State) : (probeStage s).1.stations = s.stations := by
  unfold probeStage
  split
  · split
    · dsimp only
      split
      · unfold judgeCheck
        split <;> simp [endCheck, updatePeak]
      · rfl
    · simp [endCheck]
  · rfl

theorem probedFrom_station (s : State) (i : Fin 4) : (probedFrom s).1.station i = s.station i :=
  congrArg (fun v : Four StationRt => v.get i)
    ((probeStage_stations _).trans ((lockStage_stations 1 _).trans (lockStage_stations 0 s)))

theorem probedFrom_of_idle (h : s.check.running = false) : (probedFrom s).2 = noProbe :=
  congrArg Prod.snd (probeStage_of_idle ((staged_lockStage (staged_lockStage (.refl s) 0) 1).check h))

/-! ## The inputs of a computation point's set-points -/

/-- What the stages from intake on find unchanged of the state `s` before the computation point. -/
structure Inputs (s w : State) : Prop where
  store : w.store = s.store
  segs : w.segs = s.segs
  mode : w.mgmt.mode = s.mgmt.mode
  pacing : w.pacing.state = s.pacing.state
  station : ∀ i, StationStaged (s.station i) (w.station i)
  direct : ∀ i, w.direct i = s.direct i ∨ (w.direct i).active = false ∧ (w.station i).state = .faulted
  check : s.check.running = false → w.check.running = false

theorem demandStage_frame (s : State) :
    ∃ port demand report, (demandStage s).1 = { s with port := port, demand := demand, report := report } :=
  ⟨_, _, _, (congrArg Prod.fst (demandStage_eq s) :).trans (writeEvents_eq_setReport _ _)⟩

theorem Inputs.of_staged {change : Bool} {t : Nat} {taken : State}
    (h : demandStage (cutPoint (advance t s)) = (taken, change)) (hw : Staged taken w) : Inputs s w := by
  obtain ⟨port, demand, report, htaken⟩ := demandStage_frame (cutPoint (advance t s))
  rw [h] at htaken
  have hstation (i : Fin 4) : taken.station i = s.station i := (congrArg (fun u => u.station i) htaken :)
  have hdirect (i : Fin 4) : taken.direct i = s.direct i := (congrArg (fun u => u.direct i) htaken :)
  have hcheck : taken.check = s.check := (congrArg State.check htaken :)
  exact {
    store := (congrArg State.store hw.frame :).trans (congrArg State.store htaken :)
    segs := (congrArg State.segs hw.frame :).trans (congrArg State.segs htaken :)
    mode := (congrArg (fun u => u.mgmt.mode) hw.frame :).trans (congrArg (fun u => u.mgmt.mode) htaken :)
    pacing := (congrArg (fun u => u.pacing.state) hw.frame :).trans (congrArg (fun u => u.pacing.state) htaken :)
    station := fun i => hstation i ▸ hw.station i
    direct := fun i => hdirect i ▸ hw.direct i
    check := fun hc => hw.check (hcheck ▸ hc) }

/-- R106: the computation point from the state its references leave. -/
def pointFrom (m : State) : State :=
  perCycleUplink (assembly (Four.tabulate (gatedForces m)) (probedFrom m).2 (probedFrom m).1)

/-- R106: a computation point whose moment has come, by the state its references leave. -/
theorem computePoint_from (t : Nat) (s : State) : ∃ m, computePoint (advance t s) = pointFrom m ∧ Inputs s m ∧
    Inputs s (probedFrom m).1 := by
  obtain ⟨taken, change, h⟩ : ∃ taken change, demandStage (cutPoint (advance t s)) = (taken, change) :=
    ⟨_, _, rfl⟩
  have hm := staged_measuredFrom change taken
  exact ⟨_, computePoint_eq h, .of_staged h hm, .of_staged h (hm.trans (staged_probedFrom _))⟩

section PointFrom

variable (m : State) (i : Fin 4)

theorem pointFrom_setpoint : (pointFrom m).setpoints.get i =
    setPointOf (probedFrom m).1 (Four.tabulate (gatedForces m)) (probedFrom m).2 i := by
  rw [pointFrom, perCycleUplink_setpoints, assembly_setpoint]

theorem pointFrom_station : (pointFrom m).station i =
    { m.station i with slewMemory := ((pointFrom m).setpoints.get i).torque } := by
  rw [pointFrom_setpoint, pointFrom, perCycleUplink_station, assembly_station, probedFrom_station]

theorem pointFrom_direct : (pointFrom m).direct i =
    if sourceOf (probedFrom m).1 i = .direct then counted ((probedFrom m).1.direct i)
    else (probedFrom m).1.direct i := by
  rw [pointFrom, perCycleUplink_direct, assembly_direct]

theorem pointFrom_demand : (pointFrom m).demand = m.demand :=
  (computed_of_staged (staged_probedFrom m)).demand

end PointFrom

end Sys2Proof.Machine
end

section
/-! PROOF. Assembly and its set-points. -/

namespace Sys2Proof.Proofs

open Sys2Proof.Machine

/-- O47, the stage by itself: the set-point is `drivenSetPoint` of its target unless something forces SAFE. -/
theorem assembly_limits (forces : Four (Int × Int)) (probe : Four Int) (i : Fin 4) (lock target : Int) (s : State) :
    let u := assembly forces probe s
    let x := u.setpoints.get i
    let memory := (s.station i).slewMemory
    let limit : Int := (s.station i).torqueLimit
    let slew : Int := (s.store.stations.get i).slew
    let d := s.direct i
    let clamped := max (-limit) (min limit target)
    ((∀ g, isMember (s.store.groups.get g) i = false) → lock = 0) →
    (∀ g, isMember (s.store.groups.get g) i = true → lock = (s.group g).force.get i) →
    (d.active = true → target = d.torque) →
    (d.active = false → RoundsTo
      (((forces.get i).1 + (forces.get i).2 + lock + probe.get i) * (s.store.stations.get i).radius)
      100000 target) →
    x.serial = s.pacing.serial ∧ u.station i = { s.station i with slewMemory := x.torque } ∧
    (SafeForced s i → x.torque = 0 ∧ x.source = .safe ∧ x.limited = false ∧ x.slewed = false) ∧
    (¬ SafeForced s i → x.source = (if d.active then .direct else .computed) ∧
      x.limited = decide (clamped ≠ target) ∧
      (|clamped - memory| ≤ slew → x.torque = clamped ∧ x.slewed = false) ∧
      (slew < |clamped - memory| → x.slewed = true ∧
        x.torque = if memory < clamped then memory + slew else memory - slew)) ∧
    (x.source ≠ .direct → u.direct i = d) ∧
    (x.source = .direct → u.direct i =
      { active := decide (1 < d.remaining), torque := d.torque, remaining := d.remaining - 1,
        endCause := if d.remaining ≤ 1 then .expired else d.endCause }) := by
  intro u x memory limit slew d clamped hnone hmember hdirect hcomputed
  have hx : x = setPointOf s forces probe i := assembly_setpoint forces probe s i
  have hsource : x.source = sourceOf s i := hx ▸ setPointOf_source
  have hdirects := assembly_direct forces probe s i
  refine ⟨hx ▸ setPointOf_serial, hx ▸ assembly_station forces probe s i, fun hs => ?_, fun hs => ?_,
    fun hne => ?_, fun he => ?_⟩
  · rw [hx, setPointOf_of_forced (forcedSafe_iff.2 hs)]
    exact ⟨rfl, rfl, rfl, rfl⟩
  · have htarget : (if d.active then d.torque
        else forceToTorque (forceSum s forces probe i) (s.store.stations.get i).radius) = target := by
      cases hd : d.active with
      | true => exact (hdirect hd).symm
      | false =>
        rw [if_neg Bool.false_ne_true, forceToTorque, forceSum, lockForce_eq hnone hmember]
        exact roundDiv_eq_of_roundsTo (hcomputed hd)
    rw [hx, setPointOf_of_free hs, htarget, drivenSetPoint, clampAbs_eq]
    refine ⟨rfl, rfl, fun hw => ?_, fun hb => ?_⟩
    · dsimp only
      rw [slewed_of_within hw]
      exact ⟨rfl, rfl⟩
    · dsimp only
      rw [slewed_of_beyond hb]
      exact ⟨rfl, rfl⟩
  · exact hdirects.trans (if_neg (hsource ▸ hne))
  · exact hdirects.trans (if_pos (hsource ▸ he))

/-- O47, over a computation point: where nothing forces SAFE, the set-point is `drivenSetPoint` on the limits,
the slew and the slew memory of before. -/
theorem setpoint_of_free {s m : State} {i : Fin 4} (hw : Inputs s (probedFrom m).1)
    (hfree : ¬ SafeForced (probedFrom m).1 i) :
    (probedFrom m).1.direct i = s.direct i ∧
    (pointFrom m).setpoints.get i = drivenSetPoint (s.station i).torqueLimit (s.store.stations.get i).slew
      (s.station i).slewMemory
      (if (s.direct i).active then (s.direct i).torque
        else forceToTorque (forceSum (probedFrom m).1 (Four.tabulate (gatedForces m)) (probedFrom m).2 i)
          (s.store.stations.get i).radius)
      (if (s.direct i).active then .direct else .computed) (probedFrom m).1.pacing.serial := by
  have hdirect : (probedFrom m).1.direct i = s.direct i := by
    refine (hw.direct i).resolve_right fun ⟨_, hf⟩ => hfree (.inr (.inr (.inl ?_)))
    simp [liveOrStale, hf]
  obtain ⟨-, htorque, -, hslew, -⟩ := hw.station i
  refine ⟨hdirect, ?_⟩
  rw [pointFrom_setpoint, setPointOf_of_free hfree, hdirect, htorque, hslew, hw.store]

/-- R72: what a station that nothing forces SAFE has. -/
theorem running_of_free {s w : State} {i : Fin 4} (hw : Inputs s w) (hfree : ¬ SafeForced w i) :
    s.mgmt.mode = .operate ∧ s.pacing.state ≠ .halted ∧ liveOrStale (w.station i) = true ∧
      stationSegState s i = some .up := by
  simp only [SafeForced, not_or, not_not, Bool.not_eq_false] at hfree
  obtain ⟨hmode, hhalted, hlive, hup⟩ := hfree
  refine ⟨?_, hw.pacing ▸ hhalted, hlive, ?_⟩
  · rw [hw.mode] at hmode
    cases h : s.mgmt.mode with
    | config => exact absurd h hmode
    | operate => rfl
  · have hseg (g : Seg) : w.seg g = s.seg g := congrArg (fun v : Two Segment => v.get g.num) hw.segs
    simpa only [stationSegState, hw.store, hseg] using hup

theorem active_of_driven {limit slew : Nat} {memory target : Int} {a : Bool} {serial : BitVec 32}
    (h : (drivenSetPoint limit slew memory target (if a then .direct else .computed) serial).source = .direct) :
    a = true := by
  cases a with
  | true => rfl
  | false => cases h

theorem inactive_of_computed {limit slew : Nat} {memory target : Int} {a : Bool} {serial : BitVec 32}
    (h : (drivenSetPoint limit slew memory target (if a then .direct else .computed) serial).source = .computed) :
    a = false := by
  cases a with
  | false => rfl
  | true => cases h

/-- R74: with no check and no group the force is road load and inertia. -/
theorem forceSum_of_single {s m : State} {i : Fin 4} (hw : Inputs s (probedFrom m).1) (hm : m.check.running = false)
    (hnone : ∀ g, isMember (s.store.groups.get g) i = false) :
    forceSum (probedFrom m).1 (Four.tabulate (gatedForces m)) (probedFrom m).2 i =
      (gatedForces m i).1 + (gatedForces m i).2 := by
  have hlock : lockForce (probedFrom m).1 i = 0 :=
    lockForce_eq (fun _ => rfl) fun g hg => by simp [hw.store, hnone g] at hg
  have hzero : noProbe.get i = 0 := by fin_cases i <;> rfl
  rw [forceSum, hlock, probedFrom_of_idle hm, hzero, Four.get_tabulate, add_zero, add_zero]

/-- Settles O47. -/
theorem setPointLimits : Obligations.SetPointLimits := by
  refine ⟨fun forces probe i lock target s => ?_, fun t due i s u hdue hnow hu => ?_⟩
  · intro u x memory limit slew d safe clamped hnone hmember hdirect hcomputed
    obtain ⟨h1, h2, h3, h4, h5, h6⟩ := assembly_limits forces probe i lock target s hnone hmember hdirect hcomputed
    exact ⟨h1, h2, h3, h4, h5, h6, assembly_by_setpoints forces probe s⟩
  · obtain ⟨m, hpoint, hm, hw⟩ := computePoint_from t s
    have hfalls := (computationFalls_of_due (s := advance t s) hdue hnow).trans hpoint
    obtain rfl : pointFrom m = u := Host.Outcome.next.inj ((congrArg Host.Outcome.next hfalls).symm.trans hu)
    intro x memory limit d
    have hsource : x.source = sourceOf (probedFrom m).1 i :=
      (congrArg _ (pointFrom_setpoint m i)).trans setPointOf_source
    have hx : x = setPointOf _ _ _ i := pointFrom_setpoint m i
    have hfree (hne : x.source ≠ .safe) : ¬ SafeForced (probedFrom m).1 i := fun hf =>
      hne (hsource.trans (sourceOf_of_forced hf))
    have hdriven (hne : x.source ≠ .safe) : (probedFrom m).1.direct i = d ∧ x = drivenSetPoint _ _ _ _ _ _ :=
      setpoint_of_free hw (hfree hne)
    refine ⟨fun hs => ?_, fun hne => ?_, fun hd => ?_, fun hc => ?_⟩
    · rw [hx, setPointOf_of_safe (hx ▸ hs)]
      exact ⟨rfl, rfl, rfl⟩
    · obtain ⟨hmode, hhalted, hlive, hup⟩ := running_of_free hw (hfree hne)
      obtain ⟨-, hset⟩ := hdriven hne
      rw [hset, pointFrom_station, ← probedFrom_station]
      exact ⟨hmode, hhalted, hlive, hup, fun hmem => slewed_natAbs_le hmem (clampAbs_bound _ _), slewed_step_le _ _ _,
        slewed_step_of_slewed⟩
    · have hne : x.source ≠ .safe := by simp [hd]
      obtain ⟨-, hset⟩ := hdriven hne
      have hactive : d.active = true := active_of_driven (hset ▸ hd)
      rw [hset, hactive]
      exact ⟨rfl, decide_eq_decide.2 (clampAbs_ne_iff _ _), slewed_of_not_slewed⟩
    · have hne : x.source ≠ .safe := by simp [hc]
      obtain ⟨hkept, hset⟩ := hdriven hne
      have hactive : d.active = false := inactive_of_computed (hset ▸ hc)
      refine ⟨hactive, ?_, fun hcheck hpresent hnone => ?_⟩
      · rw [pointFrom_direct, ← hsource, hc]
        exact hkept
      · have hsum := forceSum_of_single hw (hm.check hcheck) hnone
        refine ⟨forceToTorque ((gatedForces m i).1 + (gatedForces m i).2)
          (s.store.stations.get i).radius, fun hmode => ?_,
          fun v hmode hv => ?_, ?_, ?_⟩
        · rw [pointFrom_demand] at hmode
          rw [gatedForces_of_gated (.inl hmode)]
          simp [forceToTorque]
        · obtain ⟨-, -, hlive, -⟩ := running_of_free hw (hfree hne)
          rw [probedFrom_station] at hlive
          rw [pointFrom_demand] at hmode
          rw [pointFrom_station] at hv
          have hnomember (g : Fin 2) : ¬ (isMember (m.store.groups.get g) i = true ∧ engaged (m.group g) = true) :=
            fun hg => by simp [hm.store, hnone g] at hg
          rw [gatedForces_of_road hmode (kinematics_of_own (hm.store ▸ hpresent) hlive hnomember hv), hm.store,
            pointFrom_demand, pointFrom_station]
        · rw [hset, hactive, ← hsum]
          rfl
        · rw [hset, hactive, ← hsum]
          exact slewed_of_not_slewed

end Sys2Proof.Proofs
end

section
/-! SUPPORT. Station intake, cause by cause, on a runtime record put in place (R8 to R20). -/

namespace Sys2Proof.Machine

variable {s : State} {i : Fin 4}

/-! ## A station's slot (R8) -/

/-- R8: the one enabled slot that names a station. -/
theorem stationSlot_of_unique {slot : Option (Seg × Fin 4)} (h : ∀ gk, slot = some gk ↔ slotNames s.store gk i) :
    stationSlot s.store i = slot := by
  cases hfind : stationSlot s.store i with
  | some gk =>
    have hgk : slotNames s.store gk i := by simpa [slotNames] using List.find?_some hfind
    exact ((h gk).2 hgk).symm
  | none =>
    cases slot with
    | none => rfl
    | some gk =>
      have hno := List.find?_eq_none.1 hfind gk (mem_allSlots gk)
      have hgk : slotNames s.store gk i := (h gk).1 rfl
      exact absurd hgk (by simpa [slotNames] using hno)

theorem freshRecord_eq (s : State) (i : Fin 4) : freshRecord s i = (stationSlot s.store i).bind fun gk =>
    (s.slot gk.1 gk.2).buffer.bind fun m => if m.serial = s.pacing.serial then some m else none := by
  unfold freshRecord
  cases stationSlot s.store i with
  | none => rfl
  | some gk =>
    dsimp only [Option.bind_some]
    cases (s.slot gk.1 gk.2).buffer <;> rfl

/-! ## The causes on a record put in place -/

theorem setStation_self (s : State) (i : Fin 4) : s.setStation i (s.station i) = s := by
  have hset : s.stations.set i (s.station i) = s.stations :=
    Four.ext_get fun j => by by_cases hj : j = i <;> simp [hj, State.station]
  rw [State.setStation, hset]
  rfl

theorem writeEvent_setStation (b : EventBody) (s : State) (i : Fin 4) (x : StationRt) :
    writeEvent b (s.setStation i x) = (writeEvent b s).setStation i x := by
  rw [State.setStation, writeEvent_setStations, State.setStation, writeEvent_stations]

section Placed

variable (x : StationRt)

theorem station_placed : (s.setStation i x).station i = x := by
  rw [State.station_setStation, if_pos rfl]

/-- R20: the entry to FAULTED. -/
theorem enterFaulted_placed (reason : StationReason) :
    enterFaulted i reason (s.setStation i x) = faultedAt i reason x s := by
  unfold enterFaulted
  dsimp only
  rw [setStation_setStation, station_placed]
  generalize hy : { x with state := StationState.faulted, reason := reason } = y
  have hdirects : (writeEvent (.station i reason) (latch (.stationFault i) (s.setStation i y))).directs =
      s.directs := by
    simp
  have hdirect : (writeEvent (.station i reason) (latch (.stationFault i) (s.setStation i y))).direct i = s.direct i :=
    congrArg (fun v : Four Direct => v.get i) hdirects
  have hreport (bs : List EventBody) :
      (writeEvents bs (writeEvent (.station i reason) (latch (.stationFault i) (s.setStation i y)))).report =
        (writeEvents (.station i reason :: bs) (latch (.stationFault i) s)).report :=
    writeEvents_report_congr (.station i reason :: bs) (s := latch (.stationFault i) (s.setStation i y))
      (s' := latch (.stationFault i) s) rfl rfl
  rw [endDirect_eq, hdirect, hdirects, writeEvents_eq_setReport, hreport, writeEvent_eq_setReport, faultedAt, hy,
    writeEvents_eq_setReport (s := { s with
      report := { s.report with faults := s.report.faults ||| BitVec.twoPow 18 (11 + i.val) } })]
  rfl

/-- R16: the overspeed debounce. -/
theorem overspeedTest_placed : overspeedTest i (s.setStation i x) = debounced i x s := by
  unfold overspeedTest debounced
  rw [station_placed]
  simp only [setStation_setStation, enterFaulted_placed, State.setStation_store]
  rfl

/-- R15: no usable sample. -/
theorem noSample_placed : noSample i (s.setStation i x) = unsampled i x s := by
  unfold noSample unsampled
  rw [station_placed]
  simp only [setStation_setStation, enterFaulted_placed, overspeedTest_placed, State.setStation_store,
    liveOrStale_iff]
  rfl

/-- R14: the sample adopted. -/
theorem adoptSample_placed (v : Int) : adoptSample i v (s.setStation i x) = sampled i v x s := by
  unfold adoptSample sampled
  dsimp only
  rw [station_placed]
  by_cases hw : x.state = .waiting
  · rw [decide_eq_true hw, if_pos rfl, if_pos hw, setStation_setStation, writeEvent_setStation]
    exact overspeedTest_placed _
  · rw [decide_eq_false hw, if_neg Bool.false_ne_true, if_neg hw, setStation_setStation]
    exact overspeedTest_placed _

end Placed

/-! ## A fresh record (R10 to R15, R19) -/

/-- R10, R11, R19: the runtime record with a record's status and torque, and its speed where it has one. -/
def reading (x : StationRt) (m : Measure) (v : Option Int) : StationRt :=
  { x with status := some m.status, torque := some m.torque, speed := v.or x.speed }

theorem speedOr_takeReading (v : Option Int) (m : Measure) (x : StationRt) :
    speedOr v (takeReading m x) = reading x m v := by
  cases v <;> rfl

theorem intakeRecord_of_notReady {m : Measure} (h : statusFault m.status = false)
    (h' : statusReady m.status = false) : intakeRecord i m s = unsampled i (reading (s.station i) m none) s := by
  unfold intakeRecord
  dsimp only
  rw [if_neg (Bool.eq_false_iff.1 h), if_neg (Bool.eq_false_iff.1 h'), noSample_placed]
  rfl

section Record

variable {m : Measure} {r : StationRec} {x : StationRt} (hr : s.store.stations.get i = r) (hx : s.station i = x)
include hr hx

theorem intakeRecord_of_fault (h : statusFault m.status = true) :
    intakeRecord i m s = faultedAt i .driveFault (reading x m (surfaceSpeed r x.init m)) s := by
  unfold intakeRecord
  dsimp only
  rw [hr, hx, if_pos h, station_placed, setStation_setStation, speedOr_takeReading, enterFaulted_placed]

theorem intakeRecord_of_unconverted (h : statusFault m.status = false) (h' : statusReady m.status = true)
    (hv : surfaceSpeed r x.init m = none) : intakeRecord i m s = unsampled i (reading x m none) s := by
  unfold intakeRecord
  dsimp only
  rw [if_neg (Bool.eq_false_iff.1 h), if_pos h', hr, hx, hv]
  exact noSample_placed _

theorem intakeRecord_of_converted (h : statusFault m.status = false) (h' : statusReady m.status = true) {z : Int}
    (hv : surfaceSpeed r x.init m = some z) :
    intakeRecord i m s = sample i z (s.setStation i (reading x m none)) := by
  unfold intakeRecord
  dsimp only
  rw [if_neg (Bool.eq_false_iff.1 h), if_pos h', hr, hx, hv]
  rfl

end Record

theorem implausible_iff {r : StationRec} {x : StationRt} {z : Int} :
    implausible r x z = true ↔ ∃ last, x.speed = some last ∧ r.maxStep < (z - last).natAbs := by
  unfold implausible
  cases x.speed <;> simp

section Sample

variable {x : StationRt} {z : Int}

theorem sample_of_implausible {last : Int} (hlast : x.speed = some last)
    (h : (s.store.stations.get i).maxStep < (z - last).natAbs) :
    sample i z (s.setStation i x) = unsampled i { x with plausibility := min (x.plausibility + 1) 255 } s := by
  unfold sample
  dsimp only
  rw [station_placed, State.setStation_store, if_pos (implausible_iff.2 ⟨last, hlast, h⟩), setStation_setStation,
    noSample_placed]
  rfl

theorem sample_of_plausible
    (h : ∀ last, x.speed = some last → (z - last).natAbs ≤ (s.store.stations.get i).maxStep) :
    sample i z (s.setStation i x) = sampled i z x s := by
  have hno : ¬ implausible (s.store.stations.get i) x z = true := fun hc => by
    obtain ⟨last, hlast, hlt⟩ := implausible_iff.1 hc
    exact Nat.not_le.2 hlt (h last hlast)
  unfold sample
  dsimp only
  rw [station_placed, State.setStation_store, if_neg hno, adoptSample_placed]

end Sample

/-! ## The tests before the record (R8, R9) -/

theorem intakeStation_of_absent (hx : (s.station i).state = .absent) : intakeStation s i = s := by
  rw [intakeStation, hx]
  exact ite_self _

theorem intakeStation_of_faulted (hp : (s.store.stations.get i).present = true)
    (hx : (s.station i).state = .faulted) : intakeStation s i = intakeFaulted i s := by
  rw [intakeStation, if_pos hp, hx]

theorem intakeFaulted_of_none (hf : freshRecord s i = none) : intakeFaulted i s = s := by
  rw [intakeFaulted, hf]

theorem intakeStation_of_running (hp : (s.store.stations.get i).present = true)
    (hx : (s.station i).state = .waiting ∨ (s.station i).state = .live ∨ (s.station i).state = .stale) :
    intakeStation s i = intakeRunning i s := by
  rw [intakeStation, if_pos hp]
  rcases hx with hx | hx | hx <;> rw [hx]

theorem segmentTest_of_jammed (h : stationSegState s i = some .jammed) :
    segmentTest s i = some .segmentLost := by
  rw [segmentTest, h]

theorem segmentTest_of_none (h : stationSegState s i = none) : segmentTest s i = none := by
  rw [segmentTest, h]

theorem segmentTest_of_mark {st : SegState} (h : stationSegState s i = some st) (hst : st ≠ .jammed) :
    segmentTest s i = markReason (s.station i).init.mark := by
  rw [segmentTest, h]
  cases st with
  | jammed => exact absurd rfl hst
  | down | boot | up => rfl

theorem intakeRunning_of_faulted {reason : StationReason} (h : segmentTest s i = some reason) :
    intakeRunning i s = faultedAt i reason (s.station i) s := by
  have hplaced := enterFaulted_placed (s := s) (i := i) (s.station i) reason
  rw [setStation_self] at hplaced
  rw [intakeRunning, h]
  exact hplaced

theorem intakeRunning_of_none (h : segmentTest s i = none) (hf : freshRecord s i = none) :
    intakeRunning i s = unsampled i (s.station i) s := by
  have hplaced := noSample_placed (s := s) (i := i) (s.station i)
  rw [setStation_self] at hplaced
  rw [intakeRunning, h, hf]
  exact hplaced

theorem intakeRunning_of_fresh {m : Measure} (h : segmentTest s i = none) (hf : freshRecord s i = some m) :
    intakeRunning i s = intakeRecord i m s := by
  rw [intakeRunning, h, hf]

theorem intakeFaulted_of_fresh {m : Measure} (hf : freshRecord s i = some m) : intakeFaulted i s =
    s.setStation i (reading (s.station i) m (surfaceSpeed (s.store.stations.get i) (s.station i).init m)) := by
  rw [intakeFaulted, hf, ← speedOr_takeReading]

end Sys2Proof.Machine
end

section
/-! PROOF. Station intake. -/

namespace Sys2Proof.Proofs

open Sys2Proof.Machine

/-- Settles O50: the test that decides names the equation of its cause. -/
theorem stationIntake : Obligations.StationIntake := by
  intro i slot s hslot u x r segState fresh read
  have hs : stationSlot s.store i = slot := stationSlot_of_unique hslot
  have hseg : stationSegState s i = segState := by rw [stationSegState, hs]
  have hfresh : freshRecord s i = fresh := by rw [freshRecord_eq, hs]
  refine ⟨fun h => ?_, fun hp hx => ⟨fun hf => ?_, fun m hf => ?_⟩, fun hp hx => ?_⟩
  · rcases h with h | h
    · exact if_neg (Bool.eq_false_iff.1 h)
    · exact intakeStation_of_absent h
  · exact (intakeStation_of_faulted hp hx).trans (intakeFaulted_of_none (hfresh.trans hf))
  · exact (intakeStation_of_faulted hp hx).trans (intakeFaulted_of_fresh (hfresh.trans hf))
  · have hu : u = intakeRunning i s := intakeStation_of_running hp hx
    have hmarked (hsome : slot.isSome = true) (hj : segState ≠ some .jammed) :
        segmentTest s i = markReason x.init.mark := by
      obtain ⟨gk, hgk⟩ := Option.isSome_iff_exists.1 hsome
      have hst : segState = some (s.seg gk.1).state := by simp only [segState, hgk, Option.map_some]
      exact segmentTest_of_mark (hseg.trans hst) fun he => hj (hst.trans (congrArg some he))
    refine ⟨fun hj => hu.trans (intakeRunning_of_faulted (segmentTest_of_jammed (hseg.trans hj))),
      fun hsome hj => ⟨fun hm => ?_, fun hm => ?_⟩, fun hn => ?_, fun hsome hj hm => ?_⟩
    · exact hu.trans (intakeRunning_of_faulted ((hmarked hsome hj).trans (congrArg markReason hm)))
    · exact hu.trans (intakeRunning_of_faulted ((hmarked hsome hj).trans (congrArg markReason hm)))
    · have hseg' : segState = none := by simp only [segState, hn, Option.map_none]
      have hfresh' : fresh = none := by simp only [fresh, hn, Option.bind_none]
      exact hu.trans (intakeRunning_of_none (segmentTest_of_none (hseg.trans hseg')) (hfresh.trans hfresh'))
    · have hpass : segmentTest s i = none := (hmarked hsome hj).trans (congrArg markReason hm)
      refine ⟨fun hf => hu.trans (intakeRunning_of_none hpass (hfresh.trans hf)), fun m hf => ?_⟩
      have hrecord : u = intakeRecord i m s := hu.trans (intakeRunning_of_fresh hpass (hfresh.trans hf))
      refine ⟨fun h1 => hrecord.trans (intakeRecord_of_fault rfl rfl h1), fun h1 h0 =>
        hrecord.trans (intakeRecord_of_notReady h1 h0), fun h1 h0 => ⟨fun hv =>
          hrecord.trans (intakeRecord_of_unconverted rfl rfl h1 h0 hv), fun z last hv hlast hlt => ?_,
        fun z hv hall => ?_⟩⟩
      · exact (hrecord.trans (intakeRecord_of_converted rfl rfl h1 h0 hv)).trans
          (sample_of_implausible (x := reading x m none) hlast hlt)
      · exact (hrecord.trans (intakeRecord_of_converted rfl rfl h1 h0 hv)).trans
          (sample_of_plausible (x := reading x m none) hall)

end Sys2Proof.Proofs
end

section
/-! SUPPORT. The reference stage: the group after the member test and the reference change, the measured
reference, the ramp, the ring and the status OR (R43 to R49). -/

namespace Sys2Proof.Machine

variable {s t : State} {g : Fin 2}

/-! ## The member test and the reference change (R44, R45) -/

/-- R44: a member of the group is FAULTED. -/
def MemberLost (s : State) (g : Fin 2) : Prop :=
  ∃ i, isMember (s.store.groups.get g) i = true ∧ (s.station i).state = .faulted

theorem any_faulted_iff : ((membersOf (s.store.groups.get g)).any fun i => decide ((s.station i).state = .faulted)) =
    true ↔ MemberLost s g := by
  simp [MemberLost, mem_membersOf]

/-- R44, R45: the state the references are taken from. -/
def tested (change : Bool) (g : Fin 2) (s : State) : State := applyReferenceChange change g (memberTest g s)

theorem memberTest_of_lost (he : engaged (s.group g) = true) (hl : MemberLost s g) :
    memberTest g s = breakGroup g .memberFault s :=
  if_pos (by rw [he, any_faulted_iff.2 hl]; rfl)

theorem memberTest_of_kept (h : engaged (s.group g) = false ∨ ¬ MemberLost s g) : memberTest g s = s := by
  refine if_neg fun hc => ?_
  obtain ⟨he, hl⟩ := Bool.and_eq_true_iff.1 hc
  rcases h with h | h
  · rw [h] at he
    cases he
  · exact h (any_faulted_iff.1 hl)

theorem applyReferenceChange_of_rest (change : Bool) (h : engaged (s.group g) = false) :
    applyReferenceChange change g s = s := if_neg (by simp [h])

/-- What the member test and the reference change make of a state: the group's record and the register. -/
structure TestedAs (s : State) (g : Fin 2) (z : GroupRt) (report : Report) (t : State) : Prop where
  frame : t = { s with groups := s.groups.set g z, report := report }
  kept : z.measured = (s.group g).measured ∧ z.reference = (s.group g).reference ∧ z.ring = (s.group g).ring

theorem testedAs_of_lost (change : Bool) (he : engaged (s.group g) = true) (hl : MemberLost s g) :
    TestedAs s g (brokenRt .memberFault (s.group g))
      (writeEvent (.group g .memberFault (s.group g).maxError) (latch (.lockBroken g) s)).report
      (tested change g s) := by
  have hbreak : breakGroup g .memberFault s = (writeEvent (.group g .memberFault (s.group g).maxError)
      (latch (.lockBroken g) s)).setGroups (s.groups.set g (brokenRt .memberFault (s.group g))) :=
    groupEvent_setGroup g (latch (.lockBroken g) s) (brokenRt .memberFault (s.group g))
  have hrest : engaged ((breakGroup g .memberFault s).group g) = false := by
    rw [hbreak]
    exact congrArg engaged ((Two.get_set ..).trans (if_pos rfl))
  refine ⟨?_, rfl, rfl, rfl⟩
  rw [tested, memberTest_of_lost he hl, applyReferenceChange_of_rest change hrest, hbreak, writeEvent_eq_setReport]
  rfl

theorem testedAs_of_change {change : Bool} (he : engaged (s.group g) = true) (hl : ¬ MemberLost s g)
    (hc : change = true) :
    TestedAs s g (restartCaptureRt (s.group g))
      (writeEvent (.group g .referenceChanged (s.group g).maxError) s).report (tested change g s) := by
  subst hc
  have hchange : applyReferenceChange true g s = groupEvent g (s.setGroup g (restartCaptureRt (s.group g))) :=
    if_pos (by rw [he]; rfl)
  refine ⟨?_, rfl, rfl, rfl⟩
  rw [tested, memberTest_of_kept (.inr hl), hchange, groupEvent_setGroup, writeEvent_eq_setReport]
  rfl

theorem testedAs_of_kept {change : Bool} (h : engaged (s.group g) = false ∨ ¬ MemberLost s g ∧ change = false) :
    TestedAs s g (s.group g) s.report (tested change g s) := by
  have hset : s.groups.set g (s.group g) = s.groups :=
    Two.ext_get fun j => by by_cases hj : j = g <;> simp [hj, State.group]
  have hsame : tested change g s = s := by
    rcases h with he | ⟨hl, hc⟩
    · rw [tested, memberTest_of_kept (.inl he), applyReferenceChange_of_rest change he]
    · rw [tested, memberTest_of_kept (.inr hl), hc]
      rfl
  refine ⟨?_, rfl, rfl, rfl⟩
  rw [hsame, hset]

/-! ## The references (R46, R47) -/

theorem measuredNow_of_mean (hk : (s.store.groups.get g).kind = .mean) : measuredNow s g =
    if memberSpeeds s g = [] then none
    else some (roundDiv (memberSpeeds s g).sum (memberSpeeds s g).length) := by
  rw [measuredNow, hk]
  cases memberSpeeds s g <;> rfl

theorem measuredNow_of_leader (hk : (s.store.groups.get g).kind = .leader) :
    measuredNow s g = suppliedSpeed (s.station (s.store.groups.get g).leader) := by
  rw [measuredNow, hk]

/-- R47: the step of the ramp, by exact rounding. -/
theorem rampStep_eq {r : GroupRec} {period : Nat} {n : Int}
    (h : RoundsTo (r.accelLimit * period) 1000 n) : (rampStep r period : Int) = max 1 n := by
  have hn : roundDiv ((r.accelLimit * period : Nat) : Int) 1000 = n := by
    rw [Nat.cast_mul]
    exact roundDiv_eq_of_roundsTo h
  have hpos := roundDiv_nonneg (n := ((r.accelLimit * period : Nat) : Int)) (Int.natCast_nonneg _) 1000
  rw [rampStep, hn]
  omega

theorem ramp_eq {step : Nat} {target current : Int} : ramp step target current =
    if |target - current| ≤ step then target else if current < target then current + step else current - step := by
  rw [ramp, Int.abs_eq_natAbs]
  exact if_congr Nat.cast_le.symm rfl rfl

section References

variable {found : Option Int}

theorem takeReferences_of_speed (hf : measuredNow s g = found) (he : engaged (s.group g) = true)
    (hm : s.demand.prevMode = .speed) : takeReferences s g = { s.group g with
      measured := found.or (s.group g).measured,
      ramped := rampedNow s g (found.or (s.group g).measured),
      reference := rampedNow s g (found.or (s.group g).measured) } := by
  rw [takeReferences, hf, he, decide_eq_true hm]
  rfl

theorem takeReferences_of_measured (hf : measuredNow s g = found)
    (h : engaged (s.group g) = false ∨ s.demand.prevMode ≠ .speed) : takeReferences s g = { s.group g with
      measured := found.or (s.group g).measured, ramped := none,
      reference := found.or (s.group g).reference } := by
  have hno : (engaged (s.group g) && decide (s.demand.prevMode = .speed)) = false := by
    rcases h with h | h <;> simp [h]
  rw [takeReferences, hf, hno]
  rfl

end References

/-! ## Ring, acceleration and status (R48, R49) -/

theorem pushReference_of_none {r : GroupRec} {period : Nat} {x : GroupRt} (h : x.reference = none) :
    pushReference r period x = { x with refAccel := 0 } := by
  rw [pushReference, h]

theorem pushReference_of_some {r : GroupRec} {period : Nat} {x : GroupRt} {v : Int} (h : x.reference = some v) :
    pushReference r period x = { x with
      ring := pushRing x.ring v, refAccel := ringAccel (pushRing x.ring v) r.accelWindow period } := by
  rw [pushReference, h]

theorem anyStatus_iff {flag : Byte → Bool} : anyStatus s g flag = true ↔
    ∃ i b, isMember (s.store.groups.get g) i = true ∧ (s.station i).status = some b ∧ flag b = true := by
  simp only [anyStatus, List.any_eq_true, mem_membersOf]
  refine exists_congr fun i => ?_
  cases (s.station i).status <;> simp

theorem referenceStage_eq (change : Bool) (h : (s.store.groups.get g).members ≠ 0) : referenceStage change g s =
    (tested change g s).setGroup g (statusOr (tested change g s) g (pushReference (s.store.groups.get g)
      (tested change g s).pacing.period (takeReferences (tested change g s) g))) := if_neg h

/-- R48: what the ring leaves of a group's record, and the ring's acceleration. -/
structure Pushed (r : GroupRec) (period : Nat) (x y : GroupRt) : Prop where
  frame : y = { x with ring := y.ring, refAccel := y.refAccel }
  none : x.reference = none → y.ring = x.ring ∧ y.refAccel = 0
  some : ∀ v, x.reference = some v → RingAccel r.accelWindow period x.ring v y.ring y.refAccel

theorem pushed_pushReference (r : GroupRec) (period : Nat) (x : GroupRt) :
    Pushed r period x (pushReference r period x) := by
  cases h : x.reference with
  | none =>
    rw [pushReference_of_none h]
    exact ⟨rfl, fun _ => ⟨rfl, rfl⟩, fun v hv => by simp [h] at hv⟩
  | some v =>
    rw [pushReference_of_some h]
    refine ⟨rfl, fun hn => by simp [h] at hn, fun v' hv => ?_⟩
    obtain rfl : v = v' := Option.some.inj (h.symm.trans hv)
    exact ringAccel_pushRing _ _ _ _

/-- R46, R47: the references of a group's record `z`, from the measured reference `found`. -/
structure Referenced (d : EffDemand) (period : Nat) (r : GroupRec) (found : Option Int) (z y : GroupRt) : Prop where
  frame : y = { z with measured := y.measured, ramped := y.ramped, reference := y.reference }
  measured : y.measured = found.or z.measured
  speed : engaged z = true → d.prevMode = .speed → y.reference = y.ramped ∧
    (z.ramped = none → y.ramped = found.or z.measured) ∧
    ∀ q n step, z.ramped = some q → RoundsTo (r.accelLimit * period) 1000 n → step = max 1 n →
      y.ramped = some (if |(d.target : Int) * 1000 - q| ≤ step then (d.target : Int) * 1000
        else if q < (d.target : Int) * 1000 then q + step else q - step)
  other : engaged z = false ∨ d.prevMode ≠ .speed → y.ramped = none ∧ y.reference = found.or z.reference

theorem rampedNow_of_none {measured : Option Int} (h : (s.group g).ramped = none) :
    rampedNow s g measured = measured := by
  rw [rampedNow, h]

theorem rampedNow_of_some {measured : Option Int} {q n : Int} (h : (s.group g).ramped = some q)
    (hn : RoundsTo ((s.store.groups.get g).accelLimit * s.pacing.period) 1000 n) :
    rampedNow s g measured = some (if |(s.demand.target : Int) * 1000 - q| ≤ max 1 n then
      (s.demand.target : Int) * 1000
      else if q < (s.demand.target : Int) * 1000 then q + max 1 n else q - max 1 n) := by
  rw [rampedNow, h]
  dsimp only
  rw [ramp_eq, rampStep_eq hn]
  push_cast
  rfl

theorem referenced_takeReferences {found : Option Int} (hf : measuredNow s g = found) :
    Referenced s.demand s.pacing.period (s.store.groups.get g) found (s.group g) (takeReferences s g) := by
  by_cases h : engaged (s.group g) = true ∧ s.demand.prevMode = .speed
  · obtain ⟨he, hm⟩ := h
    rw [takeReferences_of_speed hf he hm]
    refine ⟨rfl, rfl, fun _ _ => ⟨rfl, rampedNow_of_none, fun q n step hq hn hs => ?_⟩, fun hno => ?_⟩
    · rw [hs]
      exact rampedNow_of_some hq hn
    · rcases hno with hno | hno
      · rw [he] at hno
        cases hno
      · exact absurd hm hno
  · have hno : engaged (s.group g) = false ∨ s.demand.prevMode ≠ .speed := by
      rcases not_and_or.1 h with h | h
      · exact .inl (Bool.eq_false_iff.2 h)
      · exact .inr h
    rw [takeReferences_of_measured hf hno]
    exact ⟨rfl, rfl, fun he hm => absurd ⟨he, hm⟩ h, fun _ => ⟨rfl, rfl⟩⟩

theorem statusOr_frame {z w p : GroupRt}
    (hw : w = { z with measured := w.measured, ramped := w.ramped, reference := w.reference })
    (hp : p = { w with ring := p.ring, refAccel := p.refAccel }) :
    let y := statusOr s g p
    y = { z with
      measured := y.measured, ramped := y.ramped, reference := y.reference, ring := y.ring,
      refAccel := y.refAccel, limiting := y.limiting, brake := y.brake } := by
  intro y
  simp only [y]
  rw [hp, hw]
  rfl

end Sys2Proof.Machine
end

section
/-! PROOF. The reference stage. -/

namespace Sys2Proof.Proofs

open Sys2Proof.Machine

/-- Settles O53: the references, the ring and the status of the record the member test and the reference change
leave. -/
theorem referenceStage : Obligations.ReferenceStage := by
  refine ⟨fun change g s h => if_pos h, ?_⟩
  intro change g s z found r x t y target lost zeros speeds measured hmembers hlost hchange hkept hempty hmean hleader
  have hfound : measuredNow s g = found := by
    cases hk : r.kind with
    | mean =>
      rw [measuredNow_of_mean hk]
      by_cases he : speeds = []
      · exact (if_pos he).trans (hempty hk he).symm
      · obtain ⟨m, hm, hf⟩ := hmean hk he
        exact (if_neg he).trans ((congrArg some (roundDiv_eq_of_roundsTo hm)).trans hf.symm)
    | leader => exact (measuredNow_of_leader hk).trans (hleader hk).symm
  obtain ⟨report, ⟨hframe, hmeasured, hreference, hring⟩, hreport⟩ : ∃ report,
      TestedAs s g z report (tested change g s) ∧
      (engaged x = true → lost → report = (writeEvent (.group g .memberFault x.maxError)
        (latch (.lockBroken g) s)).report) ∧
      (engaged x = true → ¬ lost → change = true →
        report = (writeEvent (.group g .referenceChanged x.maxError) s).report) ∧
      (engaged x = false ∨ (¬ lost ∧ change = false) → report = s.report) := by
    by_cases he : engaged x = true
    · by_cases hl : lost
      · refine ⟨_, hlost he hl ▸ testedAs_of_lost change he hl, fun _ _ => rfl, fun _ hn => absurd hl hn,
          fun hno => ?_⟩
        exact hno.elim (fun hn => by simp [hn] at he) fun hn => absurd hl hn.1
      · rcases Bool.eq_false_or_eq_true change with hc | hc
        · refine ⟨_, hchange he hl hc ▸ testedAs_of_change he hl hc, fun _ hn => absurd hn hl,
            fun _ _ _ => rfl, fun hno => ?_⟩
          exact hno.elim (fun hn => by simp [hn] at he) fun hn => by simp [hn.2] at hc
        · have hk : engaged x = false ∨ ¬ lost ∧ change = false := .inr ⟨hl, hc⟩
          exact ⟨_, hkept hk ▸ testedAs_of_kept hk, fun _ hn => absurd hn hl, fun _ _ hn => by simp [hn] at hc,
            fun _ => rfl⟩
    · have hrest : engaged x = false := Bool.eq_false_iff.2 he
      exact ⟨_, hkept (.inl hrest) ▸ testedAs_of_kept (.inl hrest), fun hn => absurd hn he, fun hn => absurd hn he,
        fun _ => rfl⟩
  have ht : t = _ := referenceStage_eq change hmembers
  rw [hframe] at ht
  have hz : State.group { s with groups := s.groups.set g z, report := report } g = z :=
    (Two.get_set ..).trans (if_pos rfl)
  have href := referenced_takeReferences (s := { s with groups := s.groups.set g z, report := report }) (g := g) hfound
  rw [hz] at href
  generalize takeReferences { s with groups := s.groups.set g z, report := report } g = w at ht href
  have hpush := pushed_pushReference r s.pacing.period w
  generalize hp : pushReference r s.pacing.period w = p at hpush
  have hy : y = statusOr s g p := by
    rw [show y = t.group g from rfl, ht, State.group_setGroup, if_pos rfl]
    exact congrArg (statusOr s g) hp
  obtain ⟨hpf, hpnone, hpsome⟩ := hpush
  obtain ⟨hwf, hwm, hws, hwo⟩ := href
  have hym : y.measured = w.measured := (congrArg GroupRt.measured hy :).trans (congrArg GroupRt.measured hpf :)
  have hyr : y.ramped = w.ramped := (congrArg GroupRt.ramped hy :).trans (congrArg GroupRt.ramped hpf :)
  have hyf : y.reference = w.reference := (congrArg GroupRt.reference hy :).trans (congrArg GroupRt.reference hpf :)
  have hyg : y.ring = p.ring := (congrArg GroupRt.ring hy :)
  have hya : y.refAccel = p.refAccel := (congrArg GroupRt.refAccel hy :)
  have hwg : w.ring = x.ring := (congrArg GroupRt.ring hwf :).trans hring
  have htr : t.report = report := (congrArg State.report ht :)
  refine ⟨hym.trans (hwm.trans (by rw [hmeasured])), fun he hm => ?_, fun hno => ?_, fun hn => ?_,
    fun v hv => ?_, ?_, ?_, ?_,
    fun he hl => htr.trans (hreport.1 he hl), fun he hl hc => htr.trans (hreport.2.1 he hl hc),
    fun hk => htr.trans (hreport.2.2 hk), fun g' hg' => ?_, ?_⟩
  · rw [hyf, hyr]
    obtain ⟨h1, h2, h3⟩ := hws he hm
    refine ⟨h1, fun hn => (h2 hn).trans (by rw [hmeasured]), fun q n step hq hn hs => ?_⟩
    exact h3 q n step hq hn hs
  · rw [hyr, hyf]
    obtain ⟨h1, h2⟩ := hwo hno
    exact ⟨h1, h2.trans (by rw [hreference])⟩
  · obtain ⟨h1, h2⟩ := hpnone (hyf.symm.trans hn)
    exact ⟨hyg.trans (h1.trans hwg), hya.trans h2⟩
  · rw [hyg, hya, ← hwg]
    exact hpsome v (hyf.symm.trans hv)
  · exact (congrArg (fun b => b = true) (congrArg GroupRt.limiting hy) :).to_iff.trans anyStatus_iff
  · exact (congrArg (fun b => b = true) (congrArg GroupRt.brake hy) :).to_iff.trans anyStatus_iff
  · rw [hy]
    exact statusOr_frame hwf hpf
  · rw [ht, State.group_setGroup, if_neg hg']
    exact (Two.get_set ..).trans (if_neg hg')
  · rw [ht]
    rfl

end Sys2Proof.Proofs
end

section
/-! SUPPORT. The lock stage: errors and forces, the counts of each state, the verdict and what carries it out
(R50 to R60). -/

namespace Sys2Proof.Machine

variable {s t : State} {g : Fin 2}

/-! ## Errors and forces (R50 to R55) -/

theorem speedError_eq (x : StationRt) (reference : Option Int) : speedError x reference = errorOf x reference := by
  have hlive := liveOrStale_iff (x := x)
  cases hl : liveOrStale x <;> rw [hl] at hlive <;> cases hv : x.speed <;> cases reference <;>
    simp [speedError, errorOf, suppliedSpeed, hl, hv, ← hlive]

theorem maxAbs_tabulate (f : Fin 4 → Int) : maxAbs (Four.tabulate f) = greatest f := rfl

theorem corrected_iff {r : GroupRec} {mode : DriveMode} {i : Fin 4} :
    corrected r mode i ↔ isMember r i = true ∧ isFreeLeader r mode i = false := by
  simp [corrected, isFreeLeader]

section Forces

variable {r : GroupRec} {x : GroupRt} {i : Fin 4}

theorem lockMember_of_corrected (h : corrected r s.demand.prevMode i) {e : Int}
    (he : e = errorOf (s.station i) x.reference) : lockMember s r x i =
      (e, correct r s.pacing.period x.aEff e (x.integrator.get i)) := by
  obtain ⟨hm, hf⟩ := corrected_iff.1 h
  rw [lockMember, if_pos hm, if_neg (Bool.eq_false_iff.1 hf), speedError_eq, ← he]

theorem lockMember_of_uncorrected (h : ¬ corrected r s.demand.prevMode i) : lockMember s r x i = (0, 0, 0) := by
  unfold lockMember
  split
  case isTrue hm =>
    exact if_pos (Bool.eq_true_of_not_eq_false fun hf => h (corrected_iff.2 ⟨hm, hf⟩))
  case isFalse => rfl

end Forces

/-- R50 to R54: a group's record with the errors, integrators and forces of its members. -/
def forced (x : GroupRt) (e i f : Fin 4 → Int) : GroupRt :=
  { x with
    error := Four.tabulate e, integrator := Four.tabulate i, force := Four.tabulate f, maxError := greatest e,
    maxIntegrator := greatest i }

theorem engagedForces_eq {r : GroupRec} {x : GroupRt} {e i f : Fin 4 → Int}
    (hyes : ∀ k, corrected r s.demand.prevMode k → e k = errorOf (s.station k) x.reference ∧
      (i k, f k) = correct r s.pacing.period x.aEff (e k) (x.integrator.get k))
    (hno : ∀ k, ¬ corrected r s.demand.prevMode k → e k = 0 ∧ i k = 0 ∧ f k = 0) :
    engagedForces s r x = forced x e i f := by
  have hmember (k : Fin 4) : lockMember s r x k = (e k, i k, f k) := by
    by_cases hk : corrected r s.demand.prevMode k
    · obtain ⟨he, hif⟩ := hyes k hk
      rw [lockMember_of_corrected hk he, ← hif]
    · obtain ⟨he, hi, hf⟩ := hno k hk
      rw [lockMember_of_uncorrected hk, he, hi, hf]
  unfold engagedForces
  simp only [hmember]
  rfl

theorem setAuthority_of_engaged {r : GroupRec} {x : GroupRt} (h : engaged x = true) {c a : Nat}
    (hc : c = if x.state = .capturing then min (x.c + 1) r.captureCycles else x.c)
    (ha : a = if x.state = .capturing then r.authority * c / r.captureCycles else r.authority) :
    setAuthority r x = { x with
      c := c, elapsed := if x.state = .capturing then x.elapsed + 1 else x.elapsed, aEff := a } := by
  unfold setAuthority
  rcases engaged_iff.1 h with hx | hx | hx <;> simp [hx] at hc ha ⊢ <;> simp [hc, ha]

theorem setAuthority_of_resting {r : GroupRec} {x : GroupRt} (h : engaged x = false) :
    setAuthority r x = { x with aEff := 0 } := by
  unfold setAuthority
  cases hx : x.state <;> simp [engaged, hx] at h <;> rfl

/-! ## The verdict (R56 to R60) -/

/-- R57 to R59: the state and the reason a verdict leaves. -/
def LockVerdict.outcome (v : LockVerdict) (x : GroupRt) : GroupState × GroupReason :=
  match v with
  | .stay => (x.state, x.reason)
  | .lock reason => (.locked, reason)
  | .slip => (.slipping, .slip)
  | .break_ reason => (.broken, reason)

/-- R57 to R60: the record a verdict leaves. -/
def LockVerdict.apply (v : LockVerdict) (x : GroupRt) : GroupRt :=
  match v with
  | .stay => x
  | .lock reason => { x with state := .locked, reason := reason, slipRun := 0 }
  | .slip => { x with state := .slipping, reason := .slip, slipCycles := 0, recoverRun := 0 }
  | .break_ reason => brokenRt reason { x with maxIntegrator := 0 }

/-- R60: the register a verdict leaves. -/
def LockVerdict.report (v : LockVerdict) (g : Fin 2) (x : GroupRt) (s : State) : Report :=
  match v with
  | .stay => s.report
  | .lock reason => (writeEvent (.group g reason x.maxError) s).report
  | .slip => (writeEvent (.group g .slip x.maxError) s).report
  | .break_ reason => (writeEvent (.group g reason x.maxError) (latch (.lockBroken g) s)).report

theorem setGroup_setGroup (s : State) (g : Fin 2) (x y : GroupRt) : (s.setGroup g x).setGroup g y = s.setGroup g y := by
  have hset : (s.groups.set g x).set g y = s.groups.set g y :=
    Two.ext_get fun j => by by_cases hj : j = g <;> simp [hj]
  exact congrArg s.setGroups hset

theorem carryVerdict_eq (g : Fin 2) (x : GroupRt) (v : LockVerdict) (s : State) : carryVerdict g x v s =
    { s with groups := s.groups.set g (v.apply x), report := v.report g x s } := by
  cases v with
  | stay => rfl
  | lock reason | slip =>
    rw [carryVerdict, groupEvent_setGroup, writeEvent_eq_setReport]
    rfl
  | break_ reason =>
    have hbreak : breakGroup g reason (s.setGroup g { x with maxIntegrator := 0 }) =
        (writeEvent (.group g reason x.maxError) (latch (.lockBroken g) s)).setGroups
          (s.groups.set g (brokenRt reason { x with maxIntegrator := 0 })) := by
      rw [breakGroup, State.group_setGroup, if_pos rfl, setGroup_setGroup]
      exact groupEvent_setGroup g (latch (.lockBroken g) s) _
    rw [carryVerdict, hbreak, writeEvent_eq_setReport]
    rfl

/-! ### The record a verdict leaves -/

section Apply

variable {v : LockVerdict} {x : GroupRt}

theorem apply_outcome : ((v.apply x).state, (v.apply x).reason) = v.outcome x := by cases v <;> rfl

theorem apply_inBand : (v.apply x).inBand = x.inBand := by cases v <;> rfl

theorem apply_of_unbroken (h : (v.apply x).state ≠ .broken) : (v.apply x).aEff = x.aEff ∧
    (v.apply x).maxIntegrator = x.maxIntegrator ∧ (v.apply x).integrator = x.integrator ∧
    (v.apply x).force = x.force := by
  cases v with
  | stay | lock | slip => exact ⟨rfl, rfl, rfl, rfl⟩
  | break_ reason => exact absurd rfl h

theorem break_of_broken (hx : x.state ≠ .broken) (h : (v.apply x).state = .broken) :
    ∃ reason, v = .break_ reason := by
  cases v with
  | stay => exact absurd h hx
  | lock | slip => cases h
  | break_ reason => exact ⟨reason, rfl⟩

theorem apply_slipRun (hx : x.state ≠ .locked) :
    (v.apply x).slipRun = if (v.apply x).state = .locked then 0 else x.slipRun := by
  cases v with
  | stay => exact (if_neg hx).symm
  | lock | slip | break_ => rfl

theorem apply_slipRun_of_notLock (h : ∀ reason, v ≠ .lock reason) : (v.apply x).slipRun = x.slipRun := by
  cases v with
  | lock reason => exact absurd rfl (h reason)
  | stay | slip | break_ => rfl

theorem apply_recovery (hx : x.state ≠ .slipping) :
    (v.apply x).slipCycles = (if (v.apply x).state = .slipping then 0 else x.slipCycles) ∧
      (v.apply x).recoverRun = if (v.apply x).state = .slipping then 0 else x.recoverRun := by
  cases v with
  | stay => exact ⟨(if_neg hx).symm, (if_neg hx).symm⟩
  | lock | slip | break_ => exact ⟨rfl, rfl⟩

theorem apply_recovery_of_notSlip (h : v ≠ .slip) :
    (v.apply x).slipCycles = x.slipCycles ∧ (v.apply x).recoverRun = x.recoverRun := by
  cases v with
  | slip => exact absurd rfl h
  | stay | lock | break_ => exact ⟨rfl, rfl⟩

theorem apply_frame : let y := v.apply x
    y = { x with
      state := y.state, reason := y.reason, slipRun := y.slipRun, recoverRun := y.recoverRun,
      slipCycles := y.slipCycles, aEff := y.aEff, integrator := y.integrator, force := y.force,
      maxIntegrator := y.maxIntegrator } := by
  cases v <;> rfl

/-- R60: a verdict that changes the state writes the record of the change. -/
theorem report_getLast (h : v ≠ .stay) : (v.report g x s).queue.getLast? = some
    { sequence := s.report.nextSequence, serial := s.pacing.serial,
      body := .group g (v.apply x).reason (v.apply x).maxError } := by
  cases v with
  | stay => exact absurd rfl h
  | lock | slip => exact writeEvent_last _
  | break_ => exact writeEvent_last _

theorem report_of_break (reason : GroupReason) :
    ((LockVerdict.break_ reason).report g x s).faults.getLsbD (15 + g.val) = true := by
  refine writeEvent_latched _ _ ?_
  rw [latch_bit, show flagBit (.lockBroken g) = 15 + g.val from rfl, decide_eq_true rfl, Bool.or_true]

end Apply

/-! ### The counts and the verdict of each state -/

section Judge

variable {r : GroupRec} {x : GroupRt}

theorem judgeLock_capturing (h : x.state = .capturing) :
    judgeLock r x = (countInBand r x, capturingVerdict r (countInBand r x)) := by
  rw [judgeLock, h]

theorem judgeLock_locked (h : x.state = .locked) :
    judgeLock r x = (countSlip r x, lockedVerdict r (countSlip r x)) := by
  rw [judgeLock, h]

theorem judgeLock_slipping (h : x.state = .slipping) :
    judgeLock r x = (countRecovery r x, slippingVerdict r (countRecovery r x)) := by
  rw [judgeLock, h]

theorem capturingVerdict_ne_slip : capturingVerdict r x ≠ .slip := by
  unfold capturingVerdict
  split_ifs <;> exact LockVerdict.noConfusion

theorem lockedVerdict_ne_lock (reason : GroupReason) : lockedVerdict r x ≠ .lock reason := by
  unfold lockedVerdict
  split_ifs <;> exact LockVerdict.noConfusion

theorem slippingVerdict_ne_slip : slippingVerdict r x ≠ .slip := by
  unfold slippingVerdict
  split_ifs <;> exact LockVerdict.noConfusion

theorem slipCondition_iff : slipCondition r x = true ↔
    r.slipBand < x.maxError ∨ r.driftLimit * 1000 ≤ x.maxIntegrator := by
  simp [slipCondition]

/-- R58: the slip run. -/
theorem countSlip_slipRun : (r.breakBand < x.maxError → (countSlip r x).slipRun = x.slipRun) ∧
    (¬ r.breakBand < x.maxError →
      (slipCondition r x = true → (countSlip r x).slipRun = x.slipRun + 1) ∧
      (¬ slipCondition r x = true → (countSlip r x).slipRun = 0)) := by
  unfold countSlip
  refine ⟨fun hb => by rw [if_pos hb], fun hb => ?_⟩
  rw [if_neg hb]
  exact ⟨fun h => if_pos h, fun h => if_neg h⟩

/-- R59: the slip cycles and the recover run. -/
theorem countRecovery_recoverRun : (r.breakBand < x.maxError → (countRecovery r x).recoverRun = x.recoverRun) ∧
    (¬ r.breakBand < x.maxError →
      (slipCondition r x = true → (countRecovery r x).recoverRun = 0) ∧
      (¬ slipCondition r x = true → (countRecovery r x).recoverRun = x.recoverRun + 1)) := by
  unfold countRecovery
  dsimp only
  refine ⟨fun hb => by rw [if_pos hb], fun hb => ?_⟩
  rw [if_neg hb]
  exact ⟨fun h => if_pos h, fun h => if_neg h⟩

theorem countRecovery_slipCycles : (countRecovery r x).slipCycles = x.slipCycles + 1 := by
  unfold countRecovery
  dsimp only
  split <;> rfl

/-- R57 to R59: the counts leave the rest of the record. -/
theorem countSlip_frame : countSlip r x = { x with slipRun := (countSlip r x).slipRun } := by
  unfold countSlip
  split <;> rfl

theorem countRecovery_frame : countRecovery r x = { x with
    slipCycles := (countRecovery r x).slipCycles, recoverRun := (countRecovery r x).recoverRun } := by
  unfold countRecovery
  dsimp only
  split <;> rfl

theorem judgeLock_frame (h : engaged x = true) : let j := (judgeLock r x).1
    j = { x with
      inBand := j.inBand, slipRun := j.slipRun, recoverRun := j.recoverRun, slipCycles := j.slipCycles } := by
  rcases engaged_iff.1 h with hx | hx | hx
  · rw [judgeLock_capturing hx]
    rfl
  · rw [judgeLock_locked hx]
    dsimp only
    rw [countSlip_frame]
  · rw [judgeLock_slipping hx]
    dsimp only
    rw [countRecovery_frame]

theorem stay_or_moved {v : LockVerdict} {y : GroupRt} {st : GroupState} (hbroken : st ≠ .broken)
    (hlock : st = .locked → ∀ reason, v ≠ .lock reason) (hslip : st = .slipping → v ≠ .slip) :
    v = .stay ∨ (v.apply y).state ≠ st := by
  cases v with
  | stay => exact .inl rfl
  | lock reason => exact .inr fun h => hlock h.symm reason rfl
  | slip => exact .inr fun h => hslip h.symm rfl
  | break_ reason => exact .inr fun h => hbroken h.symm

/-- R57 to R59: a verdict other than to stay changes the state. -/
theorem judgeLock_moves (h : engaged x = true) :
    (judgeLock r x).2 = .stay ∨ ((judgeLock r x).2.apply (judgeLock r x).1).state ≠ x.state := by
  rcases engaged_iff.1 h with hx | hx | hx <;> rw [hx]
  · exact stay_or_moved (by decide) (fun h => by cases h) fun h => by cases h
  · rw [judgeLock_locked hx]
    exact stay_or_moved (by decide) (fun _ => lockedVerdict_ne_lock) fun h => by cases h
  · rw [judgeLock_slipping hx]
    exact stay_or_moved (by decide) (fun h => by cases h) fun _ => slippingVerdict_ne_slip

theorem capturingVerdict_countInBand : capturingVerdict r (countInBand r x) =
    if x.c = r.captureCycles ∧ r.breakBand < x.maxError then .break_ .overBreak
    else if x.c = r.captureCycles ∧
        r.captureConfirm ≤ (if x.maxError ≤ r.captureBand then min (x.inBand + 1) 255 else 0) then .lock .captured
    else if x.elapsed = r.captureCycles + r.captureTimeout then .break_ .captureTimeout
    else .stay := rfl

theorem lockedVerdict_countSlip : lockedVerdict r (countSlip r x) =
    if r.breakBand < x.maxError then .break_ .overBreak
    else if slipCondition r x = true ∧ r.slipDebounce ≤ x.slipRun + 1 then .slip
    else .stay := by
  obtain ⟨-, hrun⟩ := countSlip_slipRun (r := r) (x := x)
  unfold lockedVerdict
  rw [show (countSlip r x).maxError = x.maxError from (congrArg GroupRt.maxError countSlip_frame :),
    show slipCondition r (countSlip r x) = slipCondition r x from (congrArg (slipCondition r) countSlip_frame :)]
  by_cases hb : r.breakBand < x.maxError
  · rw [if_pos hb, if_pos hb]
  · rw [if_neg hb, if_neg hb]
    exact if_congr (and_congr_right fun hs => by rw [(hrun hb).1 hs]) rfl rfl

theorem slippingVerdict_countRecovery : slippingVerdict r (countRecovery r x) =
    if r.breakBand < x.maxError then .break_ .overBreak
    else if slipCondition r x = false ∧ r.recoverCount ≤ x.recoverRun + 1 then .lock .recovered
    else if x.slipCycles + 1 = r.breakCount then .break_ .slipTimeout
    else .stay := by
  obtain ⟨-, hrun⟩ := countRecovery_recoverRun (r := r) (x := x)
  unfold slippingVerdict
  rw [show (countRecovery r x).maxError = x.maxError from (congrArg GroupRt.maxError countRecovery_frame :),
    show slipCondition r (countRecovery r x) = slipCondition r x from
      (congrArg (slipCondition r) countRecovery_frame :), countRecovery_slipCycles]
  by_cases hb : r.breakBand < x.maxError
  · rw [if_pos hb, if_pos hb]
  · rw [if_neg hb, if_neg hb]
    exact if_congr (and_congr_right fun hs => by rw [(hrun hb).2 (Bool.eq_false_iff.1 hs)]) rfl rfl

/-- R57 to R59: the state and the reason, from the record before the stage. -/
theorem judgeLock_outcome {z : GroupRt} (h : engaged z = true) (hstate : x.state = z.state)
    (hreason : x.reason = z.reason) (hin : x.inBand = z.inBand) (hslip : x.slipRun = z.slipRun) (hrec : x.recoverRun = z.recoverRun)
    (hcyc : x.slipCycles = z.slipCycles) (hel : z.state = .capturing → x.elapsed = z.elapsed + 1) :
    (judgeLock r x).2.outcome (judgeLock r x).1 = lockOutcome r z x.c x.maxError x.maxIntegrator := by
  have hnot : slipCondition r x = false ↔ x.maxError ≤ r.slipBand ∧ x.maxIntegrator < r.driftLimit * 1000 := by
    rw [← Bool.not_eq_true, slipCondition_iff, not_or, not_lt, not_le]
  rcases engaged_iff.1 h with hz | hz | hz
  · rw [judgeLock_capturing (hstate.trans hz), capturingVerdict_countInBand, hin, hel hz, lockOutcome, hz]
    dsimp only
    generalize (if x.maxError ≤ r.captureBand then min (z.inBand + 1) 255 else 0) = n
    split_ifs
    · rfl
    · rfl
    · rfl
    · exact Prod.ext (hstate.trans hz) hreason
  · have hcounted : ((countSlip r x).state, (countSlip r x).reason) = (x.state, x.reason) :=
      (congrArg (fun y : GroupRt => (y.state, y.reason)) countSlip_frame :)
    rw [judgeLock_locked (hstate.trans hz), lockedVerdict_countSlip, hslip, lockOutcome, hz]
    simp only [slipCondition_iff]
    split_ifs
    · rfl
    · rfl
    · exact hcounted.trans (Prod.ext (hstate.trans hz) hreason)
  · have hcounted : ((countRecovery r x).state, (countRecovery r x).reason) = (x.state, x.reason) :=
      (congrArg (fun y : GroupRt => (y.state, y.reason)) countRecovery_frame :)
    rw [judgeLock_slipping (hstate.trans hz), slippingVerdict_countRecovery, hrec, hcyc, lockOutcome, hz]
    simp only [hnot, and_assoc]
    split_ifs
    · rfl
    · rfl
    · rfl
    · exact hcounted.trans (Prod.ext (hstate.trans hz) hreason)

/-- R56 to R60: the record the lock stage leaves, from the one with its forces. -/
def judged (r : GroupRec) (x : GroupRt) : GroupRt := (judgeLock r x).2.apply (judgeLock r x).1

theorem judged_capturing (h : x.state = .capturing) :
    (judged r x).inBand = (if x.maxError ≤ r.captureBand then min (x.inBand + 1) 255 else 0) ∧
      (judged r x).slipRun = (if (judged r x).state = .locked then 0 else x.slipRun) ∧
      (judged r x).recoverRun = x.recoverRun ∧ (judged r x).slipCycles = x.slipCycles := by
  have hstate : (countInBand r x).state ≠ .locked := fun hl => by
    have hc := h.symm.trans (hl : x.state = .locked)
    cases hc
  rw [judged, judgeLock_capturing h]
  obtain ⟨hcycles, hrun⟩ := apply_recovery_of_notSlip (x := countInBand r x)
    (capturingVerdict_ne_slip (r := r) (x := countInBand r x))
  exact ⟨apply_inBand, apply_slipRun hstate, hrun, hcycles⟩

theorem judged_locked (h : x.state = .locked) :
    (judged r x).inBand = x.inBand ∧ (judged r x).slipRun = (countSlip r x).slipRun ∧
      (judged r x).slipCycles = (if (judged r x).state = .slipping then 0 else x.slipCycles) ∧
      (judged r x).recoverRun = if (judged r x).state = .slipping then 0 else x.recoverRun := by
  have hframe := countSlip_frame (r := r) (x := x)
  have hstate : (countSlip r x).state ≠ .slipping := fun hl => by
    have hc := h.symm.trans ((congrArg GroupRt.state hframe :).symm.trans hl)
    cases hc
  rw [judged, judgeLock_locked h]
  obtain ⟨hcycles, hrun⟩ := apply_recovery (v := lockedVerdict r (countSlip r x)) hstate
  refine ⟨apply_inBand.trans (congrArg GroupRt.inBand hframe :), apply_slipRun_of_notLock lockedVerdict_ne_lock,
    ?_, ?_⟩
  · rw [hcycles, (congrArg GroupRt.slipCycles hframe :)]
  · rw [hrun, (congrArg GroupRt.recoverRun hframe :)]

theorem judged_slipping (h : x.state = .slipping) :
    (judged r x).inBand = x.inBand ∧ (judged r x).slipCycles = x.slipCycles + 1 ∧
      (judged r x).recoverRun = (countRecovery r x).recoverRun ∧
      (judged r x).slipRun = if (judged r x).state = .locked then 0 else x.slipRun := by
  have hframe := countRecovery_frame (r := r) (x := x)
  have hstate : (countRecovery r x).state ≠ .locked := fun hl => by
    have hc := h.symm.trans ((congrArg GroupRt.state hframe :).symm.trans hl)
    cases hc
  rw [judged, judgeLock_slipping h]
  obtain ⟨hcycles, hrun⟩ := apply_recovery_of_notSlip (x := countRecovery r x)
    (slippingVerdict_ne_slip (r := r) (x := countRecovery r x))
  refine ⟨apply_inBand.trans (congrArg GroupRt.inBand hframe :), hcycles.trans countRecovery_slipCycles, hrun, ?_⟩
  rw [apply_slipRun hstate, (congrArg GroupRt.slipRun hframe :)]

/-- R54, R57 to R60: what the judgement leaves of the record with its forces. -/
theorem judged_frame (h : engaged x = true) : let y := judged r x
    y = { x with
      state := y.state, reason := y.reason, inBand := y.inBand, slipRun := y.slipRun, recoverRun := y.recoverRun,
      slipCycles := y.slipCycles, aEff := y.aEff, integrator := y.integrator, force := y.force,
      maxIntegrator := y.maxIntegrator } := by
  have hj := judgeLock_frame (r := r) h
  simp only [judged]
  generalize (judgeLock r x).2 = v
  generalize (judgeLock r x).1 = j at hj
  rw [hj]
  cases v <;> rfl

theorem broken_of_judged (h : engaged x = true) (hb : (judged r x).state = .broken) :
    ∃ reason, (judgeLock r x).2 = .break_ reason := by
  refine break_of_broken (fun hj => ?_) hb
  have hx : x.state = .broken := (congrArg GroupRt.state (judgeLock_frame (r := r) h) :).symm.trans hj
  simp [engaged, hx] at h

theorem judged_of_unbroken (h : engaged x = true) (hb : (judged r x).state ≠ .broken) :
    (judged r x).aEff = x.aEff ∧ (judged r x).maxIntegrator = x.maxIntegrator ∧
      (judged r x).integrator = x.integrator ∧ (judged r x).force = x.force := by
  have hj := judgeLock_frame (r := r) h
  obtain ⟨ha, hm, hi, hf⟩ := apply_of_unbroken hb
  exact ⟨ha.trans (congrArg GroupRt.aEff hj :), hm.trans (congrArg GroupRt.maxIntegrator hj :),
    hi.trans (congrArg GroupRt.integrator hj :), hf.trans (congrArg GroupRt.force hj :)⟩

end Judge

/-! ## The lock stage as a whole -/

theorem lockStage_of_resting {r : GroupRec} (hr : s.store.groups.get g = r) (hm : r.members ≠ 0)
    (h : engaged (s.group g) = false) :
    lockStage g s = s.setGroup g (restingForces s r { s.group g with aEff := 0 }) := by
  unfold lockStage
  dsimp only
  rw [hr, if_neg hm, setAuthority_of_resting h, if_neg]
  exact Bool.eq_false_iff.1 h

theorem restingForces_eq {r : GroupRec} {x : GroupRt} {e : Fin 4 → Int}
    (he : ∀ i, e i = if isMember r i then errorOf (s.station i) x.reference else 0) :
    restingForces s r x = { x with
      error := Four.tabulate e, integrator := zeros, force := zeros, maxError := greatest e, maxIntegrator := 0 } := by
  have herror : (fun i => if isMember r i = true then speedError (s.station i) x.reference else 0) = e := by
    funext i
    rw [he, speedError_eq]
  rw [restingForces, herror]
  rfl

theorem lockStage_of_engaged {r : GroupRec} {x y : GroupRt} (hr : s.store.groups.get g = r) (hm : r.members ≠ 0)
    (hx : setAuthority r (s.group g) = x) (h : engaged x = true) (hy : engagedForces s r x = y) :
    lockStage g s = { s with
      groups := s.groups.set g (judged r y), report := (judgeLock r y).2.report g (judgeLock r y).1 s } := by
  unfold lockStage
  dsimp only
  rw [hr, if_neg hm, hx, if_pos h, hy]
  exact carryVerdict_eq ..

/-- The fields of a group's record that the lock stage writes, from the record before it. -/
theorem judged_written {x w y : GroupRt} {c elapsed a : Nat} {e i f : Fin 4 → Int}
    (hy : y = { w with
      state := y.state, reason := y.reason, inBand := y.inBand, slipRun := y.slipRun, recoverRun := y.recoverRun,
      slipCycles := y.slipCycles, aEff := y.aEff, integrator := y.integrator, force := y.force,
      maxIntegrator := y.maxIntegrator })
    (hw : w = forced { x with c := c, elapsed := elapsed, aEff := a } e i f) :
    y = { x with
      state := y.state, reason := y.reason, c := y.c, inBand := y.inBand, elapsed := y.elapsed,
      slipRun := y.slipRun, recoverRun := y.recoverRun, slipCycles := y.slipCycles, aEff := y.aEff,
      integrator := y.integrator, error := y.error, force := y.force, maxError := y.maxError,
      maxIntegrator := y.maxIntegrator } := by
  rw [hy, hw]
  rfl

end Sys2Proof.Machine
end

section
/-! PROOF. The lock stage. -/

namespace Sys2Proof.Proofs

open Sys2Proof.Machine

/-- Settles O52: at rest the errors alone; engaged the judgement of the record with its forces. -/
theorem lockStage : Obligations.LockStage := by
  refine ⟨fun g s h => if_pos h, ?_, ?_⟩
  · intro g s e r x hm hrest he
    exact (lockStage_of_resting (g := g) rfl hm hrest).trans
      (congrArg (s.setGroup g) (restingForces_eq (x := { x with aEff := 0 }) he))
  · intro g s e i' f c a r x y breaks slips hm hengaged hc ha hyes hno
    have hset := setAuthority_of_engaged hengaged hc ha
    have hforces := engagedForces_eq (s := s) (r := r) (x := { x with
      c := c, elapsed := if x.state = .capturing then x.elapsed + 1 else x.elapsed, aEff := a }) hyes hno
    have hstage := lockStage_of_engaged (g := g) rfl hm hset hengaged hforces
    obtain ⟨w, hw⟩ : ∃ w, w = forced { x with
      c := c, elapsed := if x.state = .capturing then x.elapsed + 1 else x.elapsed, aEff := a } e i' f := ⟨_, rfl⟩
    rw [← hw] at hstage
    have hew : engaged w = true := by rw [hw]; exact hengaged
    have hy : y = judged r w := by
      rw [show y = (Machine.lockStage g s).group g from rfl, hstage]
      exact (Two.get_set ..).trans (if_pos rfl)
    have hreport : (Machine.lockStage g s).report = _ := (congrArg State.report hstage :)
    have hframe := judged_frame (r := r) hew
    have hstate : w.state = x.state := (congrArg GroupRt.state hw :)
    have hmoves := judgeLock_moves (r := r) hew
    have hslips : slipCondition r w = true ↔ slips := by rw [slipCondition_iff, hw]; rfl
    have hbreaks : r.breakBand < w.maxError ↔ breaks := by rw [hw]; rfl
    have hunbroken : x.state ≠ .broken := fun hb => by simp [engaged, hb] at hengaged
    have hin : w.inBand = x.inBand := (congrArg GroupRt.inBand hw :)
    have hrun : w.slipRun = x.slipRun := (congrArg GroupRt.slipRun hw :)
    have hrec : w.recoverRun = x.recoverRun := (congrArg GroupRt.recoverRun hw :)
    have hcyc : w.slipCycles = x.slipCycles := (congrArg GroupRt.slipCycles hw :)
    have hel : w.elapsed = if x.state = .capturing then x.elapsed + 1 else x.elapsed :=
      (congrArg GroupRt.elapsed hw :)
    have hkept : (judged r w).elapsed = w.elapsed := (congrArg GroupRt.elapsed hframe :)
    have hmax : w.maxError = greatest e := (congrArg GroupRt.maxError hw :)
    refine ⟨?_, fun i => ?_, ?_, ?_, fun hb => ?_, fun hb => ?_, fun hx => ?_, fun hx => ?_, fun hx => ?_, ?_,
      fun hs => ?_, fun hs => ?_, fun g' hg => ?_, ?_⟩
    · rw [hy, judged, apply_outcome, judgeLock_outcome hengaged hstate (congrArg GroupRt.reason hw :) hin hrun hrec
        hcyc fun hx => hel.trans (if_pos hx), hw]
      rfl
    · rw [hy, (congrArg GroupRt.error hframe :), hw]
      exact Four.get_tabulate ..
    · rw [hy, (congrArg GroupRt.maxError hframe :), hmax]
    · rw [hy, (congrArg GroupRt.c hframe :), hw]
      rfl
    · obtain ⟨h1, h2, h3, h4⟩ := judged_of_unbroken hew (hy ▸ hb)
      rw [hy, h1, h2, h3, h4, hw]
      exact ⟨rfl, rfl, fun i => ⟨Four.get_tabulate .., Four.get_tabulate ..⟩⟩
    · obtain ⟨reason, hv⟩ := broken_of_judged hew (hy ▸ hb)
      rw [hy, judged, hreport, hv]
      exact ⟨rfl, rfl, fun i => ⟨Four.get_tabulate .., Four.get_tabulate ..⟩, report_of_break reason⟩
    · obtain ⟨h1, h2, h3, h4⟩ := judged_capturing (r := r) (hstate.trans hx)
      rw [hy, h1, h2, h3, h4, hkept, hmax, hin, hrun, hrec, hcyc, hel]
      exact ⟨rfl, if_pos hx, rfl, rfl, rfl⟩
    · have hother : x.state ≠ .capturing := fun hc => by simp [hx] at hc
      obtain ⟨h1, h2, h3, h4⟩ := judged_locked (r := r) (hstate.trans hx)
      obtain ⟨hb, hn⟩ := countSlip_slipRun (r := r) (x := w)
      rw [hbreaks, hrun] at hb
      rw [hbreaks, hslips, hrun] at hn
      rw [hy, h1, h2, h3, h4, hkept, hin, hrec, hcyc, hel]
      exact ⟨rfl, if_neg hother, hb, hn, rfl, rfl⟩
    · have hother : x.state ≠ .capturing := fun hc => by simp [hx] at hc
      obtain ⟨h1, h2, h3, h4⟩ := judged_slipping (r := r) (hstate.trans hx)
      obtain ⟨hb, hn⟩ := countRecovery_recoverRun (r := r) (x := w)
      rw [hbreaks, hrec] at hb
      rw [hbreaks, hslips, hrec] at hn
      rw [hy, h1, h2, h3, h4, hkept, hin, hrun, hcyc, hel]
      exact ⟨rfl, if_neg hother, rfl, hb, hn, rfl⟩
    · rw [hy]
      exact judged_written hframe hw
    · have hstay : (judgeLock r w).2 = .stay := hmoves.resolve_right fun hne => hne (by
        rw [hstate]
        exact (congrArg GroupRt.state hy).symm.trans hs)
      rw [hreport, hstay]
      rfl
    · have hnot : (judgeLock r w).2 ≠ .stay := fun hstay => hs (by
        rw [hy, judged, hstay]
        exact (congrArg GroupRt.state (judgeLock_frame (r := r) hew) :).trans hstate)
      rw [hreport, hy]
      exact report_getLast hnot
    · rw [hstage]
      exact (Two.get_set ..).trans (if_neg hg)
    · rw [hstage]

end Sys2Proof.Proofs
end
